-- ==== Sys2Proof/Word.lean ====
section
/-!
DEFINITION. Words, and the records that cross the block's two ports: host accesses (format F-HOST) on one side,
transport requests and answers (format F-TXN) on the other. Types only; what is done with them stands elsewhere.
-/

namespace Sys2Proof

/-- A `u8` (R13). -/
abbrev Byte := BitVec 8

/-- A `u16` (R13). -/
abbrev Half := BitVec 16

/-- A `u32`: the width of a host register (R10). -/
abbrev Word := BitVec 32

/-- The width of a host access. The block defines the 32-bit one alone (R62). -/
inductive AccessWidth where
  | bits8
  | bits16
  | bits32
  deriving DecidableEq, Repr

/-- F-HOST, the host access record (R87): direction, byte offset, data. A read's data is what the block returns
(`Machine.HostRead`). Offset and width are what the host asks for, defined or not (R61, R62). -/
inductive HostAccess where
  | read (width : AccessWidth) (offset : Nat)
  | write (width : AccessWidth) (offset : Nat) (data : Word)
  deriving DecidableEq, Repr

/-- F-TXN, the request record from the block to the transport (R86, R201). -/
inductive Request where
  | openBus (path slaveAddress busRetryBudget timeout : Nat)
  | write (bytes : List Byte)
  | read (count : Nat)
  | close
  deriving DecidableEq, Repr

/-- The transport's answer to a request (R201). -/
inductive Answer where
  | ok
  | okBytes (bytes : List Byte)
  | err
  deriving DecidableEq, Repr

end Sys2Proof
end

