-- ==== Sys2Proof/Config.lean ====
section
/-!
DEFINITION. What an implementation fixes (R9) and the free values. An opaque constant has no body: nothing in Lean can
prove what it is, so a statement that mentions one holds for every value of it.
-/

namespace Sys2Proof

/-- P_ERR_OFFSET ∈ {0, 2} (R9, R90): which response byte carries the sensor's error flag. -/
inductive ErrOffset where
  | byte0
  | byte2
  deriving DecidableEq, Repr

/-- P_TEMP_ENCODING ∈ {SIGN_MAGNITUDE, UNSIGNED} (R9, R89). -/
inductive TempEncoding where
  | signMagnitude
  | unsigned
  deriving DecidableEq, Repr

/-- The eight build-time parameters the model takes (R9), in R9's order. State carries them so that a claim is about every
choice of them; no step writes them (log entry 5). `timeBase` is the platform's microsecond (R287), `wireProtocol` the
transport's framing (R210): no rule of the block computes with either (log entry 18). -/
structure Params where
  errOffset : ErrOffset
  tempEncoding : TempEncoding
  devicePath : Nat
  slaveAddr : Nat
  busRetries : Nat
  busTimeout : Nat
  timeBase : Nat
  wireProtocol : Nat
  deriving DecidableEq, Repr

namespace Config

/-- The free values: the k-th one drawn (R18 "any value"; log entries 3 and 4). -/
opaque draw : Nat → Word

/-- P_DEVICE_PATH, OPEN in the spec (R9). -/
opaque devicePath : Nat

/-- P_SLAVE_ADDR, OPEN in the spec (R9). -/
opaque slaveAddr : Nat

/-- P_BUS_RETRIES, OPEN in the spec (R9). -/
opaque busRetries : Nat

/-- P_BUS_TIMEOUT, OPEN in the spec (R9). -/
opaque busTimeout : Nat

/-- P_TIMEBASE, OPEN in the spec (R9, R287, U17). -/
opaque timeBase : Nat

/-- P_WIRE_PROTOCOL, OPEN in the spec (R9, R210, U17). -/
opaque wireProtocol : Nat

/-- The defaults of R9, and the OPEN parameters. -/
def params : Params where
  errOffset := .byte0
  tempEncoding := .signMagnitude
  devicePath := devicePath
  slaveAddr := slaveAddr
  busRetries := busRetries
  busTimeout := busTimeout
  timeBase := timeBase
  wireProtocol := wireProtocol

end Config
end Sys2Proof
end

