-- ==== Sys2Proof/Syntax.lean ====
section
/-!
DEFINITION. The instructions: one constructor per row of spec/opcode_table.json (R101).
-/

namespace Sys2Proof

/-- The rows of the opcode table. The five host commands keep the bits of the CTRL word that R81 calls ignored, so that
no bit of an encoding is lost; no meaning reads them. The bus rows carry no operand: their bytes and counts are fixed
(R84, R85, R118), and BUS_OPEN's four values are build parameters (R203). -/
inductive Instr where
  /-- NOP: CTRL word with CMD = 0 (R221). -/
  | nop (ignored : BitVec 29)
  /-- MEASURE: CMD = 1 (R222). -/
  | measure (ignored : BitVec 29)
  /-- MEASURE_RETRY: CMD = 2 (R223). -/
  | measureRetry (ignored : BitVec 29)
  /-- CHECK: CMD = 3 (R224). -/
  | check (ignored : BitVec 29)
  /-- RESERVED_CMD: CMD ∈ {4, 5, 6, 7} (R225); `low` is CMD[1:0]. -/
  | reservedCmd (low : BitVec 2) (ignored : BitVec 29)
  /-- BUS_OPEN (R111, R203). -/
  | busOpen
  /-- BUS_WAKE, the zero-length write (R112, R114, R204). -/
  | busWake
  /-- BUS_CMD, the write of 03 00 04 (R116, R204). -/
  | busCmd
  /-- BUS_READ, the 8-byte read (R118, R205). -/
  | busRead
  /-- BUS_CLOSE (R119, R206). -/
  | busClose
  /-- REG_READ (R230). -/
  | regRead (offset : Nat)
  /-- REG_WRITE (R231). -/
  | regWrite (offset : Nat) (data : Word)
  deriving DecidableEq, Repr

end Sys2Proof
end

