-- ==== Sys2Proof/WellFormed.lean ====
section
/-!
DEFINITION. Which instruction terms the spec gives an encoding: a host access names an aligned offset inside the window.
-/

namespace Sys2Proof

/-- `offset[1:0] = 00` (R62, R87). -/
def offsetAligned (offset : Nat) : Bool := offset % 4 == 0

/-- `offset < 0x40` (R61, R87). -/
def offsetInWindow (offset : Nat) : Bool := decide (offset < 0x40)

/-- Every field of every other row admits every value of its type. -/
def Instr.wellFormed : Instr → Bool
  | .nop _ => true
  | .measure _ => true
  | .measureRetry _ => true
  | .check _ => true
  | .reservedCmd _ _ => true
  | .busOpen => true
  | .busWake => true
  | .busCmd => true
  | .busRead => true
  | .busClose => true
  | .regRead offset => offsetAligned offset && offsetInWindow offset
  | .regWrite offset _ => offsetAligned offset && offsetInWindow offset

/-- The check as a proposition. -/
abbrev Instr.WellFormed (i : Instr) : Prop := i.wellFormed = true

end Sys2Proof
end

