-- ==== Sys2Proof/Decode.lean ====
section
/-!
DEFINITION. Decoding, total and rejecting by name, and the encoder written from the same formats (R80-R87, R101).
-/

namespace Sys2Proof

/-- Why something that reaches a port is no instruction of the table. -/
inductive DecodeError where
  /-- A host access that is not 32 bits wide (R62, U5). -/
  | accessWidth
  /-- A host access at an offset that is not a multiple of 4 (R62, U5). -/
  | misaligned
  /-- A host access at an offset of 0x40 or more (R61, U5). -/
  | outsideWindow
  /-- A write of bytes the block has no way to send (R84, R85). -/
  | writeBytes
  /-- A read of a count the block never asks for (R63). -/
  | readCount
  /-- An open with other values than the build parameters (R203). -/
  | binding
  deriving DecidableEq, Repr

/-- What the decoder reads: a word written to CTRL, a host access record, or a transport request. The forms are the
formats F-CTRL, F-HOST and F-TXN (R80); F-WAKE and F-CMD are the bytes of an F-TXN write (R84, R85). -/
inductive Encoded where
  | ctrl (w : Word)
  | host (a : HostAccess)
  | txn (q : Request)
  deriving DecidableEq, Repr

/-- The decoder's answer. -/
inductive Decoded where
  | instr (i : Instr)
  | reject (e : DecodeError)
  deriving DecidableEq, Repr

/-- CMD, bits [2:0] of a CTRL word (R81). -/
def ctrlCmd (w : Word) : BitVec 3 := w.extractLsb' 0 3

/-- Bits [31:3] of a CTRL word (R81). -/
def ctrlIgnored (w : Word) : BitVec 29 := w.extractLsb' 3 29

/-- F-CTRL (R82). Every word is some command. -/
def decodeCtrl (w : Word) : Instr :=
  if ctrlCmd w = 0 then .nop (ctrlIgnored w)
  else if ctrlCmd w = 1 then .measure (ctrlIgnored w)
  else if ctrlCmd w = 2 then .measureRetry (ctrlIgnored w)
  else if ctrlCmd w = 3 then .check (ctrlIgnored w)
  else .reservedCmd (w.extractLsb' 0 2) (ctrlIgnored w)

/-- Why a host access at this offset is undefined; none where it is defined (R61, R62). -/
def offsetError (offset : Nat) : Option DecodeError :=
  if !offsetAligned offset then some .misaligned
  else if !offsetInWindow offset then some .outsideWindow
  else none

/-- The decoder's answer for a host access at an offset: the instruction where the access is defined. -/
def decodeAccess (width : AccessWidth) (offset : Nat) (i : Instr) : Decoded :=
  if width ≠ .bits32 then .reject .accessWidth
  else
    match offsetError offset with
    | some e => .reject e
    | none => .instr i

/-- F-HOST (R87). -/
def decodeHost : HostAccess → Decoded
  | .read width offset => decodeAccess width offset (.regRead offset)
  | .write width offset data => decodeAccess width offset (.regWrite offset data)

/-- F-CMD, the bytes of the sensor command, in the order they are sent (R84). -/
def commandBytes : List Byte := [0x03, 0x00, 0x04]

/-- The request OPEN with the four build parameters (R86, R203). -/
def openRequest (p : Params) : Request := .openBus p.devicePath p.slaveAddr p.busRetries p.busTimeout

/-- The count of a BUS_READ (R118). -/
def responseLength : Nat := 8

/-- F-TXN (R86), with the forms of R63 alone. -/
def decodeRequest (p : Params) : Request → Decoded
  | .openBus path slaveAddress busRetryBudget timeout =>
    if Request.openBus path slaveAddress busRetryBudget timeout = openRequest p then .instr .busOpen
    else .reject .binding
  | .write bytes =>
    if bytes = [] then .instr .busWake
    else if bytes = commandBytes then .instr .busCmd
    else .reject .writeBytes
  | .read count => if count = responseLength then .instr .busRead else .reject .readCount
  | .close => .instr .busClose

/-- The decoder: every encoded form has an answer. -/
def decode (p : Params) : Encoded → Decoded
  | .ctrl w => .instr (decodeCtrl w)
  | .host a => decodeHost a
  | .txn q => decodeRequest p q

/-- A CTRL word from its two fields (R81): `{ignored, CMD}`. -/
def ctrlWord (ignored : BitVec 29) (cmd : BitVec 3) : Word := (ignored ++ cmd : BitVec (29 + 3))

/-- The encoder, from the same formats. -/
def encode (p : Params) : Instr → Encoded
  | .nop ignored => .ctrl (ctrlWord ignored 0)
  | .measure ignored => .ctrl (ctrlWord ignored 1)
  | .measureRetry ignored => .ctrl (ctrlWord ignored 2)
  | .check ignored => .ctrl (ctrlWord ignored 3)
  | .reservedCmd low ignored => .ctrl (ctrlWord ignored (1#1 ++ low : BitVec (1 + 2)))
  | .busOpen => .txn (openRequest p)
  | .busWake => .txn (.write [])
  | .busCmd => .txn (.write commandBytes)
  | .busRead => .txn (.read responseLength)
  | .busClose => .txn .close
  | .regRead offset => .host (.read .bits32 offset)
  | .regWrite offset data => .host (.write .bits32 offset data)

/-- The encoded form that a table row's bits stand for (R101; log entry 15): 32 bits are a CTRL word; 24 bits are the
pattern of a 3-byte write, byte 0 in its most significant place (R84, and the BUS_CMD row's "each byte written MSB first
in the pattern"); no bits are the empty pattern, the zero-length write (R85). No other length is a format of the block. -/
def encodedOfTableWord (nbits w : Nat) : Option Encoded :=
  if nbits = 32 then some (.ctrl (BitVec.ofNat 32 w))
  else if nbits = 24 then
    some (.txn (.write [BitVec.ofNat 8 (w / 65536), BitVec.ofNat 8 (w / 256), BitVec.ofNat 8 w]))
  else if nbits = 0 then some (.txn (.write []))
  else none

/-- The instruction the decoder reads from a table row's bits; none where it refuses. -/
def decodeTableWord (nbits w : Nat) : Option Instr :=
  match encodedOfTableWord nbits w with
  | none => none
  | some e =>
    match decode Config.params e with
    | .instr i => some i
    | .reject _ => none

end Sys2Proof
end

