-- ==== Sys2Proof/Machine/State.lean ====
section
/-!
DEFINITION. The state of the machine: every piece of state the spec gives it (10_state.md), the parameters of R9, and the
model's own two fields (the turns to come and the count of free values). Plain data; no field is a function.
-/

namespace Sys2Proof.Machine

/-- The phases of the sequencer (R27, R43). Codes 13 to 15 are never produced (R95), and the type has none. -/
inductive Phase where
  | idle
  | openBus
  | wake1
  | waitWake
  | wake2
  | waitWriteMode
  | sendCmd
  | waitRead
  | read
  | close
  | validate
  | attemptEnd
  | retryWait
  deriving DecidableEq, Repr

/-- The kind of the running command (R44). -/
inductive Mode where
  | single
  | retry
  | check
  deriving DecidableEq, Repr

/-- The error codes (R240). Codes 8 to 15 are never produced (R95), and the type has none. -/
inductive ErrCode where
  | noError
  | transportError
  | wakeupError
  | commandError
  | readError
  | validationError
  | sensorReportedError
  | retriesExhausted
  deriving DecidableEq, Repr

/-- RESP, the 8-byte response buffer, byte by byte in arrival order (R36, R83). -/
structure Response where
  func : Byte
  count : Byte
  humH : Byte
  humL : Byte
  tempH : Byte
  tempL : Byte
  crcL : Byte
  crcH : Byte
  deriving DecidableEq, Repr

/-- A request the block has issued and the answer delivered for it, if any: the hidden `outstanding` (R48, R202). -/
structure Pending where
  request : Request
  answer : Option Answer
  deriving DecidableEq, Repr

/-- The events of the log port (R258). -/
inductive LogEvent where
  | attemptFailed (attempt : Half) (code : ErrCode)
  | closeFailed (attempt : Half)
  deriving DecidableEq, Repr

/-- A READ record as the block answered it (R87, R230). -/
structure HostRead where
  offset : Nat
  data : Word
  deriving DecidableEq, Repr

/-- The registers of the host window (R20), `unmapped` being offset 0x3C (R42). -/
inductive Reg where
  | ctrl
  | status
  | maxRetries
  | wakeDelay
  | writeModeDelay
  | readDelay
  | retryDelay
  | respLo
  | respHi
  | humidity
  | temperature
  | diLo
  | diHi
  | crc
  | attempts
  | unmapped
  deriving DecidableEq, Repr

/-- One turn of one agent, or of the platform (R11, R72; log entry 1). -/
inductive Turn where
  /-- The host makes an access (R230, R231). -/
  | host (a : HostAccess)
  /-- The sequencer takes its enabled step, if it has one (R110). -/
  | sequencer
  /-- The transport answers the outstanding request (R202). -/
  | answer (a : Answer)
  /-- The transport answers a request that a reset abandoned (R272). -/
  | lateAnswer (a : Answer)
  /-- Time passes, in microseconds as P_TIMEBASE measures them (R282, R287; log entries 6 and 18). -/
  | elapse (us : Nat)
  /-- The platform asserts the reset input (R270). -/
  | reset
  deriving DecidableEq, Repr

/-- The machine's state. -/
structure State where
  /-- MAX_RETRIES.BOUND (R31). -/
  maxRetries : Byte
  /-- WAKE_DELAY (R32). -/
  wakeDelay : Word
  /-- WRITEMODE_DELAY (R33). -/
  writeModeDelay : Word
  /-- READ_DELAY (R34). -/
  readDelay : Word
  /-- RETRY_DELAY (R35). -/
  retryDelay : Word
  /-- STATUS.BUSY (R22). -/
  busy : Bool
  /-- STATUS.DONE (R23). -/
  done : Bool
  /-- STATUS.OK (R24). -/
  ok : Bool
  /-- STATUS.ERR (R25). -/
  err : ErrCode
  /-- STATUS.CLOSE_FAIL (R26). -/
  closeFail : Bool
  /-- STATUS.CMD_ERR (R28). -/
  cmdErr : Bool
  /-- STATUS.LAST_ERR (R29). -/
  lastErr : ErrCode
  /-- STATUS.PHASE, the sequencer's phase register (R27, R43). -/
  phase : Phase
  /-- RESP (R36). -/
  resp : Response
  /-- HUMIDITY, tenths of %RH (R37). -/
  humidity : Half
  /-- TEMPERATURE, tenths of °C as an s32 (R38). -/
  temperature : Word
  /-- DI_E6 as an s64, seen as DI_HI and DI_LO (R39). -/
  diE6 : BitVec 64
  /-- CRC.CRC_CALC (R40). -/
  crcCalc : Half
  /-- CRC.CRC_RECV (R40). -/
  crcRecv : Half
  /-- ATTEMPTS (R41). -/
  attempts : Half
  /-- The hidden `mode` (R44). -/
  mode : Mode
  /-- The hidden `handle_open` (R45). -/
  handleOpen : Bool
  /-- The hidden `cur_err` (R46). -/
  curErr : ErrCode
  /-- The hidden `hold_us` (R47). -/
  holdUs : Word
  /-- The hidden `outstanding` (R48). -/
  outstanding : Option Pending
  /-- The hidden accumulator `crc` (R49). -/
  crcAcc : Half
  /-- The log port's events so far, oldest first (R50, R258). -/
  log : List LogEvent
  /-- The reads answered so far, oldest first (R87). -/
  reads : List HostRead
  /-- The build parameters (R9). -/
  params : Params
  /-- The model's own: the turns to come (log entry 1). -/
  script : List Turn
  /-- The model's own: how many free values have been drawn (log entry 4). -/
  draws : Nat
  deriving DecidableEq, Repr

/-- Why the machine stops with a fault: only in states the rules never produce (R18, U12; log entry 12). -/
inductive Fault where
  /-- Raised by the five BUS meanings when the sequencer is in no phase that issues the transaction (R110). Safe: the
  sequencer itself never executes one there. -/
  | busOutOfPhase
  /-- Raised by the ATTEMPT_END step in mode CHECK, which never reaches it (R180). Safe: the invariant rules it out. -/
  | attemptEndInCheck
  deriving DecidableEq, Repr

/-- Why the model gives no meaning to an access or event (R18). -/
inductive Refusal where
  /-- Raised by a refused arm of the dispatch, were there one. Safe: such an instruction has no step. -/
  | notModelled (mnemonic : String)
  /-- Raised by a host turn and by the two register meanings on an access the block does not define (R61, R62, U5).
  Safe: such an access has no step. -/
  | undefinedAccess (why : DecodeError)
  /-- Raised by an answer turn and by the completion of a transaction when the answer's shape is none the request takes
  (R201, U6). Safe: the spec gives the block no behaviour for it. -/
  | answerShape
  /-- Raised by an answer turn when no request waits for an answer: the transport's step is not enabled (R202). Safe. -/
  | unsolicitedAnswer
  deriving DecidableEq, Repr

/-- What a step or a meaning answers. -/
abbrev Result := Host.Outcome State Fault Refusal

/-- The block after reset (R271), with the given parameters; the registers R271 calls unspecified are free values, from
the k-th one on (log entry 3). -/
def State.afterReset (p : Params) (k : Nat) : State where
  maxRetries := 5
  wakeDelay := 800
  writeModeDelay := 1500
  readDelay := 30
  retryDelay := 300000
  busy := false
  done := false
  ok := false
  err := .noError
  closeFail := false
  cmdErr := false
  lastErr := .noError
  phase := .idle
  resp :=
    { func := (Config.draw k).extractLsb' 0 8
      count := (Config.draw k).extractLsb' 8 8
      humH := (Config.draw k).extractLsb' 16 8
      humL := (Config.draw k).extractLsb' 24 8
      tempH := (Config.draw (k + 1)).extractLsb' 0 8
      tempL := (Config.draw (k + 1)).extractLsb' 8 8
      crcL := (Config.draw (k + 1)).extractLsb' 16 8
      crcH := (Config.draw (k + 1)).extractLsb' 24 8 }
  humidity := (Config.draw (k + 2)).extractLsb' 0 16
  temperature := Config.draw (k + 3)
  diE6 := (Config.draw (k + 5) ++ Config.draw (k + 4) : BitVec (32 + 32))
  crcCalc := (Config.draw (k + 6)).extractLsb' 0 16
  crcRecv := (Config.draw (k + 6)).extractLsb' 16 16
  attempts := 0
  mode := .single
  handleOpen := false
  curErr := .noError
  holdUs := 0
  outstanding := none
  crcAcc := (Config.draw (k + 7)).extractLsb' 0 16
  log := []
  reads := []
  params := p
  script := []
  draws := k + 8

/-- The machine right after reset (R271, R273), with the default parameters of R9. -/
def State.reset : State := State.afterReset Config.params 0

end Sys2Proof.Machine
end

