-- ==== Sys2Proof/Machine/Flags.lean ====
section
/-!
DEFINITION. STATUS: the codes of its fields, the word the host reads, and the writes to its command flags (R21 to R29, R51).
-/

namespace Sys2Proof.Machine

/-- The code of an error (R240). -/
def ErrCode.code : ErrCode → BitVec 4
  | .noError => 0
  | .transportError => 1
  | .wakeupError => 2
  | .commandError => 3
  | .readError => 4
  | .validationError => 5
  | .sensorReportedError => 6
  | .retriesExhausted => 7

/-- The code of a phase (R27). -/
def Phase.code : Phase → BitVec 4
  | .idle => 0
  | .openBus => 1
  | .wake1 => 2
  | .waitWake => 3
  | .wake2 => 4
  | .waitWriteMode => 5
  | .sendCmd => 6
  | .waitRead => 7
  | .read => 8
  | .close => 9
  | .validate => 10
  | .attemptEnd => 11
  | .retryWait => 12

/-- The word a read of STATUS returns, its fields placed as R21 places them, from bit 31 down; reserved bits are 0. -/
def State.statusWord (s : State) : Word :=
  (0 : BitVec 12) ++ s.lastErr.code ++ s.phase.code ++ (0 : BitVec 3) ++ BitVec.ofBool s.cmdErr
    ++ BitVec.ofBool s.closeFail ++ s.err.code ++ BitVec.ofBool s.ok ++ BitVec.ofBool s.done ++ BitVec.ofBool s.busy

/-- Host misuse: CMD_ERR is set, and nothing else changes (R28, R250). -/
def State.setCmdErr (s : State) : State := { s with cmdErr := true }

/-- A BUS_CLOSE answered `Err` (R26). -/
def State.setCloseFail (s : State) : State := { s with closeFail := true }

/-- Completion of a command: OK and ERR are written, DONE set, BUSY cleared and the phase returned to IDLE, in one step
(R22 to R25, R43). -/
def State.finish (ok : Bool) (e : ErrCode) (s : State) : State :=
  { s with ok := ok, err := e, done := true, busy := false, phase := .idle }

end Sys2Proof.Machine
end

