-- ==== Sys2Proof/Machine/Operands.lean ====
section
/-!
DEFINITION. Operand forms: the assembly of the response bytes into values (R88 to R91), the response buffer as bytes on
the bus and as words of the host window (R68, R69, R92), and the host window's registers by offset and by value (R20).
-/

namespace Sys2Proof.Machine

/-- VALUE: two bytes as one u16, high byte first (R88, R161). Both bytes are unsigned. -/
def pairValue (high low : Byte) : Half := (high ++ low : BitVec (8 + 8))

/-- pair(1), the humidity pair (R88, R162). -/
def Response.humRaw (r : Response) : Half := pairValue r.humH r.humL

/-- pair(2), the temperature pair (R88, R163). -/
def Response.tempRaw (r : Response) : Half := pairValue r.tempH r.tempL

/-- TRAILER: resp[7] is the high byte, resp[6] the low one (R67, R91, R144). -/
def Response.trailer (r : Response) : Half := pairValue r.crcH r.crcL

/-- resp[0..5], the bytes the CRC covers, in order (R140, R143). -/
def Response.covered (r : Response) : List Byte := [r.func, r.count, r.humH, r.humL, r.tempH, r.tempL]

/-- The buffer a BUS_READ answer fills: byte i received is resp[i]; none unless exactly 8 bytes came (R68, R83). -/
def Response.ofBytes : List Byte → Option Response
  | [b0, b1, b2, b3, b4, b5, b6, b7] => some ⟨b0, b1, b2, b3, b4, b5, b6, b7⟩
  | _ => none

/-- RESP_LO (R69, R92). -/
def Response.wordLo (r : Response) : Word := (r.humL ++ r.humH ++ r.count ++ r.func : BitVec (8 + 8 + 8 + 8))

/-- RESP_HI (R69, R92). -/
def Response.wordHi (r : Response) : Word := (r.crcH ++ r.crcL ++ r.tempL ++ r.tempH : BitVec (8 + 8 + 8 + 8))

/-- A host write of RESP_LO: resp[j] is bits [8j+7:8j], j = 0..3 (R92, R231). -/
def Response.setWordLo (v : Word) (r : Response) : Response :=
  { r with
    func := v.extractLsb' 0 8
    count := v.extractLsb' 8 8
    humH := v.extractLsb' 16 8
    humL := v.extractLsb' 24 8 }

/-- A host write of RESP_HI: resp[4+j] is bits [8j+7:8j], j = 0..3 (R92, R231). -/
def Response.setWordHi (v : Word) (r : Response) : Response :=
  { r with
    tempH := v.extractLsb' 0 8
    tempL := v.extractLsb' 8 8
    crcL := v.extractLsb' 16 8
    crcH := v.extractLsb' 24 8 }

/-- The register at a byte offset of the window (R20, R61); none where no access is defined. -/
def regAt : Nat → Option Reg
  | 0x00 => some .ctrl
  | 0x04 => some .status
  | 0x08 => some .maxRetries
  | 0x0C => some .wakeDelay
  | 0x10 => some .writeModeDelay
  | 0x14 => some .readDelay
  | 0x18 => some .retryDelay
  | 0x1C => some .respLo
  | 0x20 => some .respHi
  | 0x24 => some .humidity
  | 0x28 => some .temperature
  | 0x2C => some .diLo
  | 0x30 => some .diHi
  | 0x34 => some .crc
  | 0x38 => some .attempts
  | 0x3C => some .unmapped
  | _ => none

/-- What a host read of a register returns (R20, R92, R230). Reserved bits read 0 (R94); CTRL and 0x3C read 0 (R30, R42).
While OK = 0 the four result registers hold no reading: the read takes the next free value, cut to the register's
width (R232, U3; log entry 4). -/
def State.readReg (s : State) : Reg → Word
  | .ctrl => 0
  | .status => s.statusWord
  | .maxRetries => s.maxRetries.setWidth 32
  | .wakeDelay => s.wakeDelay
  | .writeModeDelay => s.writeModeDelay
  | .readDelay => s.readDelay
  | .retryDelay => s.retryDelay
  | .respLo => s.resp.wordLo
  | .respHi => s.resp.wordHi
  | .humidity => if s.ok then s.humidity.setWidth 32 else ((Config.draw s.draws).extractLsb' 0 16).setWidth 32
  | .temperature => if s.ok then s.temperature else Config.draw s.draws
  | .diLo => if s.ok then s.diE6.extractLsb' 0 32 else Config.draw s.draws
  | .diHi => if s.ok then s.diE6.extractLsb' 32 32 else Config.draw s.draws
  | .crc => (s.crcRecv ++ s.crcCalc : BitVec (16 + 16))
  | .attempts => s.attempts.setWidth 32
  | .unmapped => 0

end Sys2Proof.Machine
end

