-- ==== Sys2Proof/Machine/Ops.lean ====
section
/-!
DEFINITION. The named operations every meaning is written over: accepting a command, the handshake of the transaction
port, raising an error and leaving it, the holds, the log port, reset.
-/

namespace Sys2Proof.Machine

/-- The first phase of a command (R43, R228). -/
def Mode.firstPhase : Mode → Phase
  | .single => .openBus
  | .retry => .openBus
  | .check => .validate

/-- ACCEPT, the common start of commands 1, 2 and 3 (R228). -/
def State.accept (m : Mode) (s : State) : State :=
  { s with
    busy := true
    done := false
    ok := false
    err := .noError
    lastErr := .noError
    closeFail := false
    cmdErr := false
    attempts := 0
    mode := m
    phase := m.firstPhase }

/-- A host write that a running command turns away: while BUSY = 1 it only sets CMD_ERR (R226, R227). -/
def State.whenIdle (f : State → State) (s : State) : State := if s.busy then s.setCmdErr else f s

/-- The sequencer goes on to another phase (R43). -/
def State.advance (p : Phase) (s : State) : State := { s with phase := p }

/-- Entry into a delay phase: `hold_us` is loaded on entry (R47, R282). -/
def State.hold (d : Word) (p : Phase) (s : State) : State := { s with holdUs := d, phase := p }

/-- Time passes: `hold_us` is what must still be waited (R47, R282; log entry 6). -/
def State.elapse (us : Nat) (s : State) : State := { s with holdUs := BitVec.ofNat 32 (s.holdUs.toNat - us) }

/-- An event leaves on the log port (R258). -/
def State.emit (e : LogEvent) (s : State) : State := { s with log := s.log ++ [e] }

/-! ### Errors: entry and return (R241, R254, R255) -/

/-- `cur_err` is written, the phase kept (R46). -/
def State.setCurErr (e : ErrCode) (s : State) : State := { s with curErr := e }

/-- Where `raise` sends the sequencer: after a successful open to CLOSE, from OPEN or VALIDATE to ATTEMPT_END
(R123, R241). -/
def Phase.errorTarget : Phase → Phase
  | .openBus => .attemptEnd
  | .validate => .attemptEnd
  | _ => .close

/-- `raise E`: `cur_err` is written and the attempt aborted; nothing is saved for a return (R241, R254). -/
def State.raiseError (e : ErrCode) (s : State) : State :=
  { s with curErr := e, phase := s.phase.errorTarget }

/-- The return from an attempt's error: a fresh attempt from OPEN (R184, R255). It restores nothing. -/
def State.retryAttempt (s : State) : State := s.advance .openBus

/-! ### The transaction port (R202) -/

/-- `issue(q)`: the request becomes outstanding. -/
def State.issue (q : Request) (s : State) : State := { s with outstanding := some ⟨q, none⟩ }

/-- `complete`: the answer is consumed. -/
def State.consume (s : State) : State := { s with outstanding := none }

/-- The shapes of answer a request takes (R201). -/
def answerFits : Request → Answer → Bool
  | .read _, .ok => false
  | .read _, _ => true
  | _, .okBytes _ => false
  | _, _ => true

/-- `answer(a)`: the transport delivers its answer to the request that waits for one (R202). An answer of a shape the
request does not take is refused (R201, U6), and so is one that no request waits for (log entry 7). -/
def State.deliver (a : Answer) (s : State) : Result :=
  match s.outstanding with
  | some ⟨q, none⟩ => if answerFits q a then .next { s with outstanding := some ⟨q, some a⟩ } else .refused .answerShape
  | _ => .refused .unsolicitedAnswer

/-- One sequencer step of a transaction: the issue step when nothing is outstanding; the completion step, with the
answer consumed, when one is delivered; until then the sequencer holds (R202, U7; log entries 13 and 22). `here` says
that the sequencer is in a phase of this transaction (log entry 12). -/
def transact (here : Bool) (issueStep : State → State) (completion : Answer → State → Result) (s : State) : Result :=
  if here then
    match s.outstanding with
    | none => .next (issueStep s)
    | some ⟨_, none⟩ => .next s
    | some ⟨_, some a⟩ => completion a s.consume
  else .fault .busOutOfPhase

/-- The completion of a write: `Ok` goes into the delay phase that follows, `Err` raises the step's error (R112, R114,
R116). -/
def completeWrite (e : ErrCode) (delay : Word) (next : Phase) (a : Answer) (s : State) : Result :=
  match a with
  | .ok => .next (s.hold delay next)
  | .err => .next (s.raiseError e)
  | .okBytes _ => .refused .answerShape

/-! ### Reset (R270, R272) -/

/-- Reset, whatever the phase: every register and hidden register at its reset value, the handle and the outstanding
request forgotten. No request is issued and no event emitted. What has left on the output streams has left, and the
turns to come still come (log entry 8). -/
def State.resetBlock (s : State) : State :=
  { State.afterReset s.params s.draws with log := s.log, reads := s.reads, script := s.script }

end Sys2Proof.Machine
end

