-- ==== Sys2Proof/Machine/Crc.lean ====
section
/-!
DEFINITION. The CRC-16/MODBUS validator (41_crc_validator.md).
-/

namespace Sys2Proof.Machine

/-- CRC_BIT: one shift step (R141). -/
def crcBit (c : Half) : Half := if c.getLsbD 0 then (c >>> 1) ^^^ 0xA001#16 else c >>> 1

/-- CRC_BIT applied n times. -/
def crcBits : Nat → Half → Half
  | 0, c => c
  | n + 1, c => crcBits n (crcBit c)

/-- CRC_BYTE: the byte, zero-extended, is XORed in, then eight bit steps (R142). -/
def crcByte (c : Half) (b : Byte) : Half := crcBits 8 (c ^^^ b.setWidth 16)

/-- The accumulator after some bytes, from a start value (R140). -/
def crcBytes (c : Half) (bytes : List Byte) : Half := bytes.foldl crcByte c

/-- CRC_COMPUTE: over the first six bytes, from 0xFFFF (R143). -/
def crcCompute (r : Response) : Half := crcBytes 0xFFFF#16 r.covered

/-- CRC_VALIDATE's comparison, the source's `validate(buffer[8])` (R145). -/
def crcValid (r : Response) : Bool := r.trailer == crcCompute r

/-- CRC_COMPUTE in its working register: from 0xFFFF to the final value (R49, R143). -/
def State.accumulate (s : State) : State := { s with crcAcc := crcCompute s.resp }

/-- CRC_VALIDATE's register writes, whatever its outcome: the accumulator's final value is copied to CRC_CALC, the
trailer to CRC_RECV (R40, R49, R145). Between computations the accumulator is a free value (R49, U4; log entry 11). -/
def State.writeCrc (s : State) : State :=
  { s.accumulate with
    crcCalc := s.accumulate.crcAcc
    crcRecv := s.resp.trailer
    crcAcc := (Config.draw s.draws).extractLsb' 0 16
    draws := s.draws + 1 }

end Sys2Proof.Machine
end

