-- ==== Sys2Proof/Machine/ResponseDecoder.lean ====
section
/-!
DEFINITION. The sensor-response parser (42_response_decoder.md): flag, humidity, temperature, discomfort index, DECODE,
and the order of the checks in VALIDATE.
-/

namespace Sys2Proof.Machine

/-- ERROR_FLAG: bit 7 of the byte that P_ERR_OFFSET names (R90, R160). -/
def errorFlag (o : ErrOffset) (r : Response) : Bool :=
  match o with
  | .byte0 => r.func.getLsbD 7
  | .byte2 => r.humH.getLsbD 7

/-- The temperature pair in tenths of °C (R89, R163). -/
def temperatureTenths (enc : TempEncoding) (raw : Half) : Int :=
  match enc with
  | .signMagnitude => if raw.getLsbD 15 then -((raw &&& 0x7FFF#16).toNat : Int) else (raw.toNat : Int)
  | .unsigned => (raw.toNat : Int)

/-- DISCOMFORT: the index times 10^6, exactly (R164). -/
def discomfort (tempT humT : Int) : Int := 81000 * tempT + 99 * humT * tempT - 14300 * humT + 46300000

/-- DECODE: the four result registers, written together (R165). -/
def State.decodeResult (s : State) : State :=
  { s with
    humidity := s.resp.humRaw
    temperature := BitVec.ofInt 32 (temperatureTenths s.params.tempEncoding s.resp.tempRaw)
    diE6 :=
      BitVec.ofInt 64
        (discomfort (temperatureTenths s.params.tempEncoding s.resp.tempRaw) (s.resp.humRaw.toNat : Int)) }

/-- The outcome of the two checks, CRC first (R166, R252). -/
def checkOutcome (o : ErrOffset) (r : Response) : ErrCode :=
  if !crcValid r then .validationError else if errorFlag o r then .sensorReportedError else .noError

/-- VALIDATE up to `cur_err`: the CRC register always, the result registers only after both checks pass (R120, R166). -/
def State.runChecks (s : State) : State :=
  match checkOutcome s.params.errOffset s.resp with
  | .noError => s.writeCrc.decodeResult.setCurErr .noError
  | e => s.writeCrc.setCurErr e

end Sys2Proof.Machine
end

