-- ==== Sys2Proof/Machine/Supervisor.lean ====
section
/-!
DEFINITION. The sequencer's internal steps, those of no opcode row: the delay phases (R113, R115, R117), VALIDATE (R120,
R224), and the retry supervisor's ATTEMPT_END and RETRY_WAIT (43_retry_supervisor.md).
-/

namespace Sys2Proof.Machine

/-- `wait(hold_us); phase <- next`: the step out of a delay phase is enabled once nothing is left to wait; until then
the sequencer has no step (R282). -/
def State.leaveDelay (next : State → State) (s : State) : State := if s.holdUs = 0 then next s else s

/-- The completion of CHECK, in the same step as its VALIDATE (R224). It emits no event. -/
def State.completeCheck (s : State) : State :=
  State.finish (s.curErr == ErrCode.noError) s.curErr { s with lastErr := s.curErr }

/-- VALIDATE, one atomic step (R120): in mode CHECK it completes the command, otherwise it goes to ATTEMPT_END. -/
def State.validate (s : State) : State :=
  match s.mode with
  | .check => s.runChecks.completeCheck
  | .single => s.runChecks.advance .attemptEnd
  | .retry => s.runChecks.advance .attemptEnd

/-- What every failed attempt reports: LAST_ERR and an event (R182, R183, R187). -/
def State.reportFailure (s : State) : State :=
  State.emit (.attemptFailed s.attempts s.curErr) { s with lastErr := s.curErr }

/-- `ATTEMPTS > BOUND`, u16 against u8, unsigned (R183). -/
def State.boundExceeded (s : State) : Bool := decide (s.maxRetries.toNat < s.attempts.toNat)

/-- The failed attempt's end in mode RETRY (R183). -/
def State.endRetry (s : State) : State :=
  if s.boundExceeded then s.reportFailure.finish false .retriesExhausted
  else s.reportFailure.hold s.retryDelay .retryWait

/-- ATTEMPT_END: success (R181), failure in mode SINGLE (R182), failure in mode RETRY (R183). Mode CHECK never comes here
(R180; log entry 12). -/
def attemptEnd (s : State) : Result :=
  match s.curErr, s.mode with
  | .noError, .single => .next (s.finish true .noError)
  | .noError, .retry => .next (s.finish true .noError)
  | _, .single => .next (s.reportFailure.finish false s.curErr)
  | _, .retry => .next s.endRetry
  | _, .check => .fault .attemptEndInCheck

/-- One internal step of the sequencer. In IDLE it has none; the transaction phases are the BUS instructions'. -/
def internalStep (s : State) : Result :=
  match s.phase with
  | .waitWake => .next (s.leaveDelay (State.advance .wake2))
  | .waitWriteMode => .next (s.leaveDelay (State.advance .sendCmd))
  | .waitRead => .next (s.leaveDelay (State.advance .read))
  | .validate => .next s.validate
  | .attemptEnd => attemptEnd s
  | .retryWait => .next (s.leaveDelay State.retryAttempt)
  | _ => .next s

end Sys2Proof.Machine
end

