-- ==== Sys2Proof/Machine/Bus.lean ====
section
/-!
DEFINITION. The meanings of the five bus transactions (40_protocol_driver.md, 44_bus_interface.md). Each is one sequencer
step of its transaction: the issue step, or the completion step once the transport has answered (R202; log entry 13).
-/

namespace Sys2Proof.Machine

/-- BUS_OPEN's issue step: an attempt begins (R41, R46, R111). -/
def State.beginAttempt (s : State) : State :=
  State.issue (openRequest s.params) { s with attempts := s.attempts + 1, curErr := .noError }

/-- The handle is bound, on `Ok` (R45, R111, R203). -/
def State.acquire (s : State) : State := { s with handleOpen := true, phase := .wake1 }

/-- BUS_OPEN's completion (R111). -/
def completeOpen (a : Answer) (s : State) : Result :=
  match a with
  | .ok => .next s.acquire
  | .err => .next (s.raiseError .transportError)
  | .okBytes _ => .refused .answerShape

/-- BUS_OPEN, in phase OPEN (R111, R203). -/
def execBusOpen (s : State) : Result := transact (s.phase == .openBus) State.beginAttempt completeOpen s

/-- BUS_WAKE's completion in WAKE1 and in WAKE2 (R112, R114). -/
def completeWake (a : Answer) (s : State) : Result :=
  if s.phase = .wake1 then completeWrite .wakeupError s.wakeDelay .waitWake a s
  else completeWrite .wakeupError s.writeModeDelay .waitWriteMode a s

/-- BUS_WAKE, in phases WAKE1 and WAKE2 (R112, R114, R204). -/
def execBusWake (s : State) : Result :=
  transact (s.phase == .wake1 || s.phase == .wake2) (State.issue (.write [])) completeWake s

/-- BUS_CMD's completion (R116). -/
def completeCmd (a : Answer) (s : State) : Result := completeWrite .commandError s.readDelay .waitRead a s

/-- BUS_CMD, in phase SEND_CMD (R116, R204). -/
def execBusCmd (s : State) : Result :=
  transact (s.phase == .sendCmd) (State.issue (.write commandBytes)) completeCmd s

/-- The 8 bytes fill RESP, and the sequencer goes on to CLOSE (R118). -/
def State.store (r : Response) (s : State) : State := { s with resp := r, phase := .close }

/-- BUS_READ's completion: exactly 8 bytes fill RESP; any other length is a ReadError and RESP keeps its contents
(R97, R118, R205). -/
def completeRead (a : Answer) (s : State) : Result :=
  match a with
  | .okBytes bytes =>
    match Response.ofBytes bytes with
    | some r => .next (s.store r)
    | none => .next (s.raiseError .readError)
  | .err => .next (s.raiseError .readError)
  | .ok => .refused .answerShape

/-- BUS_READ, in phase READ (R118, R205). -/
def execBusRead (s : State) : Result :=
  transact (s.phase == .read) (State.issue (.read responseLength)) completeRead s

/-- After CLOSE: a good read goes on to VALIDATE, a failed attempt to its end (R119). -/
def ErrCode.afterClose : ErrCode → Phase
  | .noError => .validate
  | _ => .attemptEnd

/-- The handle is released, on `Ok` and on `Err` (R45, R119). -/
def State.release (s : State) : State := { s with handleOpen := false, phase := s.curErr.afterClose }

/-- BUS_CLOSE's completion: `Err` sets CLOSE_FAIL and is logged, and changes no outcome (R119, R249). -/
def completeClose (a : Answer) (s : State) : Result :=
  match a with
  | .ok => .next s.release
  | .err => .next (s.setCloseFail.emit (.closeFailed s.attempts)).release
  | .okBytes _ => .refused .answerShape

/-- BUS_CLOSE, in phase CLOSE (R119, R206). -/
def execBusClose (s : State) : Result := transact (s.phase == .close) (State.issue .close) completeClose s

end Sys2Proof.Machine
end

