-- ==== Sys2Proof/Machine/HostCommands.lean ====
section
/-!
DEFINITION. The meanings of the host commands and of the two register accesses (45_host_commands.md).
-/

namespace Sys2Proof.Machine

/-- NOP (R221); while busy it is the busy case (R226). -/
def execNop (s : State) : Result := .next (s.whenIdle fun t => t)

/-- MEASURE (R222): one attempt. -/
def execMeasure (s : State) : Result := .next (s.whenIdle (State.accept .single))

/-- MEASURE_RETRY (R223): the bounded loop. -/
def execMeasureRetry (s : State) : Result := .next (s.whenIdle (State.accept .retry))

/-- CHECK (R224): validate and decode the current RESP; `cur_err` is cleared at its start (R46; log entry 10). -/
def execCheck (s : State) : Result := .next (s.whenIdle fun t => (t.accept .check).setCurErr .noError)

/-- RESERVED_CMD (R225). -/
def execReservedCmd (s : State) : Result := .next (s.whenIdle State.setCmdErr)

/-- The dispatch of a CTRL write on its word (R220); bits [31:3] have no effect. -/
def dispatchCtrl (v : Word) (s : State) : Result :=
  if ctrlCmd v = 0 then execNop s
  else if ctrlCmd v = 1 then execMeasure s
  else if ctrlCmd v = 2 then execMeasureRetry s
  else if ctrlCmd v = 3 then execCheck s
  else execReservedCmd s

/-- The write to a register other than CTRL (R231). Read-only registers and 0x3C ignore it, without CMD_ERR (R64). -/
def State.writeReg (v : Word) (s : State) : Reg → State
  | .maxRetries => s.whenIdle fun t => { t with maxRetries := v.extractLsb' 0 8 }
  | .wakeDelay => s.whenIdle fun t => { t with wakeDelay := v }
  | .writeModeDelay => s.whenIdle fun t => { t with writeModeDelay := v }
  | .readDelay => s.whenIdle fun t => { t with readDelay := v }
  | .retryDelay => s.whenIdle fun t => { t with retryDelay := v }
  | .respLo => s.whenIdle fun t => { t with resp := t.resp.setWordLo v }
  | .respHi => s.whenIdle fun t => { t with resp := t.resp.setWordHi v }
  | .ctrl | .status | .humidity | .temperature | .diLo | .diHi | .crc | .attempts | .unmapped => s

/-- The answer to an access at an offset the window does not define (R61, R62, U5). -/
def undefinedAccess (offset : Nat) : Result :=
  match offsetError offset with
  | some e => .refused (.undefinedAccess e)
  | none => .refused (.undefinedAccess .outsideWindow)

/-- REG_READ (R230): the value goes to the host; the block's state does not change (R64). The draw counter moves on so
that no two reads share a free value (log entry 4). -/
def execRegRead (offset : Nat) (s : State) : Result :=
  match regAt offset with
  | some r => .next { s with reads := s.reads ++ [⟨offset, s.readReg r⟩], draws := s.draws + 1 }
  | none => undefinedAccess offset

/-- REG_WRITE (R231); offset 0x00 dispatches by R220. -/
def execRegWrite (offset : Nat) (data : Word) (s : State) : Result :=
  match regAt offset with
  | some .ctrl => dispatchCtrl data s
  | some r => .next (s.writeReg data r)
  | none => undefinedAccess offset

end Sys2Proof.Machine
end

