-- ==== Sys2Proof/Machine/Dispatch.lean ====
section
/-!
DEFINITION. One arm per constructor of Instr, each a direct call of its meaning.
-/

namespace Sys2Proof.Machine

def exec (i : Instr) (s : State) : Host.Outcome State Fault Refusal :=
  match i with
  -- host commands: words written to CTRL (R220 to R225)
  | .nop _ => Sys2Proof.Machine.execNop s
  | .measure _ => Sys2Proof.Machine.execMeasure s
  | .measureRetry _ => Sys2Proof.Machine.execMeasureRetry s
  | .check _ => Sys2Proof.Machine.execCheck s
  | .reservedCmd _ _ => Sys2Proof.Machine.execReservedCmd s
  -- bus transactions: the sequencer's (R111 to R119)
  | .busOpen => Sys2Proof.Machine.execBusOpen s
  | .busWake => Sys2Proof.Machine.execBusWake s
  | .busCmd => Sys2Proof.Machine.execBusCmd s
  | .busRead => Sys2Proof.Machine.execBusRead s
  | .busClose => Sys2Proof.Machine.execBusClose s
  -- host register accesses (R230, R231)
  | .regRead offset => Sys2Proof.Machine.execRegRead offset s
  | .regWrite offset data => Sys2Proof.Machine.execRegWrite offset data s

end Sys2Proof.Machine
end

