-- ==== Sys2Proof/Machine/Turns.lean ====
section
/-!
DEFINITION. One turn of each agent (R11): the host's access fetched, decoded and executed; the sequencer's step; and
what the sequencer does when no turn is scripted. Also the host notation's expansions (R98, R99).
-/

namespace Sys2Proof.Machine

/-- What the block decodes of a host access: a 32-bit write of CTRL is a command word (R80, R81, R220), every other
access is its record (log entry 9). -/
def fetchHost : HostAccess → Encoded
  | .write .bits32 0 v => .ctrl v
  | a => .host a

/-- The host's turn: the access is decoded, and its instruction executed; an access the block does not define is refused
(R62, U5). -/
def hostTurn (a : HostAccess) (s : State) : Result :=
  match decode s.params (fetchHost a) with
  | .instr i => exec i s
  | .reject e => .refused (.undefinedAccess e)

/-- The instruction the sequencer executes in a transaction phase (R110, R75: the sequence is fixed in the block). -/
def Phase.instr : Phase → Option Instr
  | .openBus => some .busOpen
  | .wake1 => some .busWake
  | .wake2 => some .busWake
  | .sendCmd => some .busCmd
  | .read => some .busRead
  | .close => some .busClose
  | _ => none

/-- The sequencer's turn: its phase's transaction, or its phase's internal step (R110). With no step enabled (IDLE, an
unanswered request, a hold not over) the state stays as it is (U7; log entry 22). -/
def sequencerTurn (s : State) : Result :=
  match s.phase.instr with
  | some i => exec i s
  | none => internalStep s

/-- The delay phases (R113, R115, R117, R184). -/
def Phase.isDelay : Phase → Bool
  | .waitWake => true
  | .waitWriteMode => true
  | .waitRead => true
  | .retryWait => true
  | _ => false

/-- With no turn scripted, the host and the transport are silent, a hold runs out, and the sequencer takes its step
(log entry 2). -/
def unscriptedTurn (s : State) : Result :=
  sequencerTurn (if s.phase.isDelay then s.elapse s.holdUs.toNat else s)

/-- One scripted turn. -/
def takeTurn (t : Turn) (s : State) : Result :=
  match t with
  | .host a => hostTurn a s
  | .sequencer => sequencerTurn s
  | .answer a => s.deliver a
  | .lateAnswer _ => .next s
  | .elapse us => .next (s.elapse us)
  | .reset => .next s.resetBlock

/-! ### Placing an instruction where the next step executes it (log entries 15 and 16) -/

/-- The first phase in which the sequencer executes a bus instruction; none for the host's. -/
def busPhase : Instr → Option Phase
  | .busOpen => some .openBus
  | .busWake => some .wake1
  | .busCmd => some .sendCmd
  | .busRead => some .read
  | .busClose => some .close
  | _ => none

/-- A CTRL word is placed as the host's next write; a bus transaction by putting the sequencer in its phase, with
nothing outstanding and the sequencer's turn next. -/
def placeEncoded (e : Encoded) (s : State) : State :=
  match e with
  | .ctrl v => { s with script := .host (.write .bits32 0 v) :: s.script }
  | .host a => { s with script := .host a :: s.script }
  | .txn q =>
    match decodeRequest s.params q with
    | .instr i =>
      match busPhase i with
      | some p => { s with phase := p, outstanding := none, script := .sequencer :: s.script }
      | none => s
    | .reject _ => s

/-! ### Host notation (R98, R99) -/

/-- `WR <reg>, <imm>` (R98). -/
def wr (offset : Nat) (v : Word) : HostAccess := .write .bits32 offset v

/-- `RD <reg>` (R98). -/
def rd (offset : Nat) : HostAccess := .read .bits32 offset

/-- The pseudo-instructions of R99. -/
inductive Pseudo where
  | measure
  | measureRetry
  | check
  | nop
  | loadResp (r : Response)
  /-- POLL, with the number of reads of STATUS it takes on this run. -/
  | poll (reads : Nat)
  | rdDi
  deriving DecidableEq, Repr

/-- Their expansions into host accesses (R99). -/
def Pseudo.expand : Pseudo → List HostAccess
  | .measure => [wr 0x00 1]
  | .measureRetry => [wr 0x00 2]
  | .check => [wr 0x00 3]
  | .nop => [wr 0x00 0]
  | .loadResp r => [wr 0x1C r.wordLo, wr 0x20 r.wordHi]
  | .poll n => List.replicate n (rd 0x04)
  | .rdDi => [rd 0x2C, rd 0x30]

end Sys2Proof.Machine
end

