-- ==== Sys2Proof/Machine/Step.lean ====
section
/-!
DEFINITION. One step of the machine: the next scripted turn, or the unscripted one; and how an instruction is placed so
that the next step executes it.
-/

namespace Sys2Proof.Machine

/-- One step (R72: the agents' steps form one total order, here the order of the script; log entries 1 and 2). -/
def step (s : State) : Host.Outcome State Fault Refusal :=
  match s.script with
  | [] => unscriptedTurn s
  | t :: rest => takeTurn t { s with script := rest }

/-- `s` with the instruction of a table row's bits placed where the next step executes it (log entry 16). -/
def State.withFetchWord (s : State) (nbits w : Nat) : State :=
  match encodedOfTableWord nbits w with
  | some e => placeEncoded e s
  | none => s

end Sys2Proof.Machine
end

