-- ==== Sys2Proof/Safety.lean ====
section
/-!
DEFINITION. The terms claims are made in: the invariant the spec's prose describes, when a run is over, the reference
CRC and the bit flips of the source's test properties, and the scripts of a clean attempt and of a failing open.
-/

namespace Sys2Proof.Machine

/-- The phases in which the block owns a handle: from the completion of OPEN to the completion of CLOSE (R45). -/
def Phase.ownsHandle : Phase → Bool
  | .wake1 => true
  | .waitWake => true
  | .wake2 => true
  | .waitWriteMode => true
  | .sendCmd => true
  | .waitRead => true
  | .read => true
  | .close => true
  | _ => false

/-- The phases of an attempt in which no step of it can have failed yet: OPEN's issue to READ, and VALIDATE (R123). -/
def Phase.beforeError : Phase → Bool
  | .wake1 => true
  | .waitWake => true
  | .wake2 => true
  | .waitWriteMode => true
  | .sendCmd => true
  | .waitRead => true
  | .read => true
  | .validate => true
  | _ => false

/-- The request a phase issues (R111 to R119). -/
def Phase.request (p : Params) : Phase → Option Request
  | .openBus => some (openRequest p)
  | .wake1 => some (.write [])
  | .wake2 => some (.write [])
  | .sendCmd => some (.write commandBytes)
  | .read => some (.read responseLength)
  | .close => some .close
  | _ => none

/-- The most attempts the running command may begin (R183, R185, R224). -/
def State.attemptLimit (s : State) : Nat :=
  match s.mode with
  | .single => 1
  | .retry => s.maxRetries.toNat + 1
  | .check => 0

/-- 1 while the next attempt is decided but not yet counted (R111, R184). -/
def State.attemptsToCome (s : State) : Nat :=
  match s.phase, s.outstanding with
  | .openBus, none => 1
  | .retryWait, _ => 1
  | _, _ => 0

/-- A reading is in the result registers: OK = 1, or the attempt's end after DECODE (R24, R181). -/
def State.hasReading (s : State) : Bool :=
  s.ok || (s.phase == .attemptEnd && s.curErr == .noError)

/-- What holds in every state the rules produce. -/
structure State.Inv (s : State) : Prop where
  /-- While BUSY = 1, PHASE ≠ IDLE (R22), and the block is busy whenever its phase is not IDLE (R43). -/
  busy_iff : s.busy = true ↔ s.phase ≠ .idle
  /-- DONE is never 1 while BUSY = 1 (R23). -/
  done_idle : s.done = true → s.busy = false
  /-- OK is set only when a command completes (R24). -/
  ok_done : s.ok = true → s.done = true
  /-- ERR is 0 while BUSY = 1 and before the first command (R25). -/
  err_done : s.done = false → s.err = .noError
  /-- A completed command has succeeded exactly when its ERR is 0 (R24, R25). -/
  ok_iff : s.done = true → (s.ok = true ↔ s.err = .noError)
  /-- `handle_open` (R45, R207). -/
  handle : s.handleOpen = s.phase.ownsHandle
  /-- What is outstanding is the phase's request, and an answer delivered for it has its shape (R48, R201, R202). -/
  port : ∀ t, s.outstanding = some t →
    s.phase.request s.params = some t.request ∧ ∀ a, t.answer = some a → answerFits t.request a = true
  /-- A CHECK has no attempt: its one phase is VALIDATE (R224, R180). -/
  check_phase : s.mode = .check → s.phase = .idle ∨ s.phase = .validate
  /-- RETRY_WAIT belongs to MEASURE_RETRY (R183). -/
  retry_phase : s.phase = .retryWait → s.mode = .retry
  /-- RetriesExhausted is never an attempt's error (R248). -/
  cur_attempt : s.curErr ≠ .retriesExhausted
  /-- nor the last attempt's (R29). -/
  last_attempt : s.lastErr ≠ .retriesExhausted
  /-- No step has failed before the attempt leaves for CLOSE (R46, R252). -/
  no_error_yet : s.phase.beforeError = true → s.curErr = .noError
  /-- An attempt begins with no error (R111). -/
  open_error : s.phase = .openBus → s.outstanding ≠ none → s.curErr = .noError
  /-- A retry follows a failure (R183). -/
  retry_error : s.phase = .retryWait → s.curErr ≠ .noError
  /-- The attempts begun and to come stay within the command's limit (R121, R185). -/
  attempts_limit : s.busy = true → s.attempts.toNat + s.attemptsToCome ≤ s.attemptLimit
  /-- ATTEMPTS never wraps: the most it reaches is 256 (R41). -/
  attempts_max : s.attempts.toNat ≤ 256
  /-- A hold is pending in the delay phases alone (R47). -/
  hold_phase : s.holdUs ≠ 0 → s.phase.isDelay = true
  /-- A reading has passed the CRC check, and its index is that of its humidity and temperature (R24, R164, R165). -/
  reading : s.hasReading = true →
    s.crcCalc = s.crcRecv ∧ s.diE6 = BitVec.ofInt 64 (discomfort s.temperature.toInt (s.humidity.toNat : Int))

/-- n steps, stopping at the first fault or refusal. -/
def runSteps : Nat → State → Host.Outcome State Fault Refusal
  | 0, s => .next s
  | n + 1, s =>
    match step s with
    | .next t => runSteps n t
    | .fault f => .fault f
    | .refused r => .refused r

/-- A turn the host takes. -/
def Turn.isHost : Turn → Bool
  | .host _ => true
  | _ => false

/-- A run of a host program is over: no statement of it is left and BUSY = 0 (R229). -/
def State.runOver (s : State) : Bool := s.script.all (fun t => !t.isHost) && !s.busy

/-- The outcome is no fault. -/
def NoFault : Host.Outcome State Fault Refusal → Prop
  | .fault _ => False
  | _ => True

/-- A host read at an offset completes, returns this value, and leaves the block as it was (R64, R230); the draw counter
is the model's own. -/
def ReadsAs (s : State) (offset : Nat) (v : Word) : Prop :=
  ∃ n, exec (.regRead offset) s = .next { s with reads := s.reads ++ [⟨offset, v⟩], draws := n }

/-! ### The reference CRC: polynomial 0x8005, not reflected (R2, R140, R147) -/

/-- One shift step of the unreflected register, most significant bit first. -/
def refBit (c : Half) : Half := if c.getLsbD 15 then (c <<< 1) ^^^ 0x8005#16 else c <<< 1

/-- One byte, entered at the top of the register with its bits in reversed order, then eight shifts. -/
def refByte (c : Half) (b : Byte) : Half :=
  (List.range 8).foldl (fun x _ => refBit x) (c ^^^ (b.reverse ++ (0 : Byte) : BitVec (8 + 8)))

/-- The reference CRC of some bytes: the unreflected register from 0xFFFF, read with its bits reversed. -/
def refCrc (bytes : List Byte) : Half := (bytes.foldl refByte 0xFFFF#16).reverse

/-- The buffer with bit j of byte i flipped (R146). -/
def Response.flipBit (i j : Fin 8) (r : Response) : Response :=
  match i with
  | 0 => { r with func := r.func ^^^ (1#8 <<< j.val) }
  | 1 => { r with count := r.count ^^^ (1#8 <<< j.val) }
  | 2 => { r with humH := r.humH ^^^ (1#8 <<< j.val) }
  | 3 => { r with humL := r.humL ^^^ (1#8 <<< j.val) }
  | 4 => { r with tempH := r.tempH ^^^ (1#8 <<< j.val) }
  | 5 => { r with tempL := r.tempL ^^^ (1#8 <<< j.val) }
  | 6 => { r with crcL := r.crcL ^^^ (1#8 <<< j.val) }
  | 7 => { r with crcH := r.crcH ^^^ (1#8 <<< j.val) }

/-! ### Scripts -/

/-- One transaction: its issue, its answer, its completion (R202). -/
def transaction (a : Answer) : List Turn := [.sequencer, .answer a, .sequencer]

/-- One delay phase: time passes, and the sequencer leaves (R282). -/
def delayOf (us : Nat) : List Turn := [.elapse us, .sequencer]

/-- The turns of one attempt whose transactions all succeed, the read returning these bytes; the delays last the given
times (R110). The last two turns are VALIDATE and ATTEMPT_END. -/
def cleanAttempt (wake writeMode readWait : Nat) (bytes : List Byte) : List Turn :=
  transaction .ok ++ transaction .ok ++ delayOf wake ++ transaction .ok ++ delayOf writeMode ++ transaction .ok
    ++ delayOf readWait ++ transaction (.okBytes bytes) ++ transaction .ok ++ [.sequencer, .sequencer]

/-- The turns of one attempt whose open fails: OPEN answered `Err`, then ATTEMPT_END (R111, R183). -/
def failingOpen : List Turn := transaction .err ++ [.sequencer]

/-- n attempts whose open fails, each followed by a hold of at least the given time and the step to the next. -/
def failingOpens (us : Nat) : Nat → List Turn
  | 0 => []
  | n + 1 => failingOpen ++ delayOf us ++ failingOpens us n

/-- The events of n failed attempts, numbered from k (R187, R258). -/
def failureEvents (k : Nat) : Nat → List LogEvent
  | 0 => []
  | n + 1 => .attemptFailed (BitVec.ofNat 16 k) .transportError :: failureEvents (k + 1) n

/-- The phases a step of the sequencer, or the acceptance of a command, may lead to from a phase (R43, R110). -/
def Phase.successors : Phase → List Phase
  | .idle => [.openBus, .validate]
  | .openBus => [.wake1, .attemptEnd]
  | .wake1 => [.waitWake, .close]
  | .waitWake => [.wake2]
  | .wake2 => [.waitWriteMode, .close]
  | .waitWriteMode => [.sendCmd]
  | .sendCmd => [.waitRead, .close]
  | .waitRead => [.read]
  | .read => [.close]
  | .close => [.validate, .attemptEnd]
  | .validate => [.attemptEnd, .idle]
  | .attemptEnd => [.idle, .retryWait]
  | .retryWait => [.openBus]

end Sys2Proof.Machine
end

