-- ==== Sys2Proof/Certificates/Slice0/Obligations.lean ====
section
/-!
DEFINITION. The statements for the provers. Each docstring names the rule it formalises; OBLIGATIONS.json lists them.
-/

open Sys2Proof Sys2Proof.Machine

/-! ### Encodings and fetching -/

/-- R82, R84, R85: a few words written out from the spec's formats decode to the instructions they stand for. -/
def Obligations.SampleWordsDecode : Prop :=
  ∀ p : Params,
    decode p (.ctrl 0xFFFFFFF8#32) = .instr (.nop 0x1FFFFFFF#29) ∧
    decode p (.ctrl 0x00000001#32) = .instr (.measure 0) ∧
    decode p (.ctrl 0x00000002#32) = .instr (.measureRetry 0) ∧
    decode p (.ctrl 0x0000000B#32) = .instr (.check 1) ∧
    decode p (.ctrl 0x00000007#32) = .instr (.reservedCmd 3 0) ∧
    decode p (.txn (.openBus p.devicePath p.slaveAddr p.busRetries p.busTimeout)) = .instr .busOpen ∧
    decode p (.txn (.write [])) = .instr .busWake ∧
    decode p (.txn (.write [0x03, 0x00, 0x04])) = .instr .busCmd ∧
    decode p (.txn (.write [0x04, 0x00, 0x03])) = .reject .writeBytes ∧
    decode p (.txn (.read 8)) = .instr .busRead ∧
    decode p (.txn .close) = .instr .busClose ∧
    decode p (.host (.read .bits32 0x3C)) = .instr (.regRead 0x3C) ∧
    decode p (.host (.write .bits32 0x08 0x105)) = .instr (.regWrite 0x08 0x105)

/-- R80, R101: decoding what the encoder gives for a well-formed instruction gives the instruction back. -/
def Obligations.DecodeEncodeRoundTrip : Prop :=
  ∀ (p : Params) (i : Instr), i.WellFormed → decode p (encode p i) = .instr i

/-- R80, R101: the decoder accepts nothing but the encodings of well-formed instructions. -/
def Obligations.DecodeAcceptsOnlyEncodings : Prop :=
  ∀ (p : Params) (e : Encoded) (i : Instr), decode p e = .instr i → i.WellFormed ∧ encode p i = e

/-- A host turn whose access decodes to an instruction executes exactly that instruction, on the state with the turn
taken from the script (log entry 1); and a 32-bit access at an aligned offset of the window is REG_READ or REG_WRITE at
that offset, with that data (R230, R231; at offset 0 by R220, log entry 9). -/
def Obligations.StepRunsHostInstruction : Prop :=
  (∀ (s : State) (a : HostAccess) (rest : List Turn) (i : Instr),
    s.script = .host a :: rest → decode s.params (fetchHost a) = .instr i →
      i.WellFormed ∧ step s = exec i { s with script := rest }) ∧
  (∀ (s : State) (off : Nat) (v : Word) (rest : List Turn), off % 4 = 0 → off < 0x40 →
    (s.script = .host (.read .bits32 off) :: rest → step s = exec (.regRead off) { s with script := rest }) ∧
    (s.script = .host (.write .bits32 off v) :: rest → step s = exec (.regWrite off v) { s with script := rest }))

/-- In a transaction phase the sequencer's turn, scripted or not, executes the instruction that the phase's request
decodes to (R110; log entries 1 and 2). In every phase a scripted sequencer's turn is `sequencerTurn` on the state without
it; with no turn scripted it is `sequencerTurn`, a pending hold having run out (log entry 2). In IDLE it changes nothing
(R273; log entry 22). -/
def Obligations.StepRunsSequencerInstruction : Prop :=
  (∀ (s : State) (q : Request), s.phase.request s.params = some q →
    ∃ i, decode s.params (.txn q) = .instr i ∧
      (∀ rest, s.script = .sequencer :: rest → step s = exec i { s with script := rest }) ∧
      (s.script = [] → step s = exec i s)) ∧
  (∀ (s : State) (rest : List Turn), s.script = .sequencer :: rest →
    step s = sequencerTurn { s with script := rest }) ∧
  (∀ s : State, s.script = [] →
    (s.phase.isDelay = false → step s = sequencerTurn s) ∧
    (s.phase.isDelay = true → step s = sequencerTurn { s with holdUs := 0 })) ∧
  (∀ s : State, s.phase = .idle → sequencerTurn s = .next s)

/-- An instruction placed by `withFetchWord` is executed by the very next step: a host command on the state itself, a
bus transaction with the sequencer in its phase (log entry 16). -/
def Obligations.PlacedInstructionRuns : Prop :=
  ∀ (s : State) (nbits w : Nat) (i : Instr), decodeTableWord nbits w = some i →
    step (s.withFetchWord nbits w) =
      match busPhase i with
      | none => exec i s
      | some p => exec i { s with phase := p, outstanding := none }

/-- R61, R62: an access of another width, at a misaligned offset, or outside the window is refused, as a host turn and as
an instruction. -/
def Obligations.UndefinedAccessRefused : Prop :=
  (∀ (s : State) (w : AccessWidth) (off : Nat) (v : Word) (rest : List Turn),
    w ≠ .bits32 ∨ off % 4 ≠ 0 ∨ 0x40 ≤ off →
      (s.script = .host (.read w off) :: rest → ∃ e, step s = .refused (.undefinedAccess e)) ∧
      (s.script = .host (.write w off v) :: rest → ∃ e, step s = .refused (.undefinedAccess e))) ∧
  (∀ (s : State) (off : Nat) (v : Word), off % 4 ≠ 0 ∨ 0x40 ≤ off →
    (∃ e, exec (.regRead off) s = .refused (.undefinedAccess e)) ∧
    (∃ e, exec (.regWrite off v) s = .refused (.undefinedAccess e)))

/-! ### Host commands -/

/-- R220: a write to CTRL is the command of its bits [2:0]; while busy it only sets CMD_ERR; bits [31:3] have no
effect. -/
def Obligations.CtrlWriteDispatch : Prop :=
  ∀ (v : Word) (s : State),
    exec (.regWrite 0x00 v) s = exec (decodeCtrl v) s ∧
    (s.busy = true → exec (.regWrite 0x00 v) s = .next { s with cmdErr := true }) ∧
    (v.toNat % 8 = 0 → ∃ g, decodeCtrl v = .nop g) ∧
    (v.toNat % 8 = 1 → ∃ g, decodeCtrl v = .measure g) ∧
    (v.toNat % 8 = 2 → ∃ g, decodeCtrl v = .measureRetry g) ∧
    (v.toNat % 8 = 3 → ∃ g, decodeCtrl v = .check g) ∧
    (4 ≤ v.toNat % 8 → ∃ l g, decodeCtrl v = .reservedCmd l g) ∧
    (∀ v' : Word, v'.toNat % 8 = v.toNat % 8 → exec (.regWrite 0x00 v') s = exec (.regWrite 0x00 v) s)

/-- R221: a NOP while idle changes nothing; written while busy it is the busy case, which sets CMD_ERR. -/
def Obligations.NopMeaning : Prop :=
  ∀ (g : BitVec 29) (s : State),
    (s.busy = false → exec (.nop g) s = .next s) ∧
    (s.busy = true → exec (.nop g) s = .next { s with cmdErr := true })

/-- R226: any write to CTRL while BUSY = 1 sets CMD_ERR, and changes nothing else. -/
def Obligations.CtrlWriteWhileBusy : Prop :=
  ∀ (g : BitVec 29) (l : BitVec 2) (v : Word) (s : State), s.busy = true →
    ∀ i ∈ [Instr.nop g, .measure g, .measureRetry g, .check g, .reservedCmd l g, .regWrite 0x00 v],
      exec i s = .next { s with cmdErr := true }

/-- R228: what ACCEPT writes, for each of the three commands; the result registers' bits are not cleared. -/
def Obligations.AcceptWritesCommandFields : Prop :=
  ∀ (g : BitVec 29) (s : State), s.busy = false →
    ∀ c ∈ [(Instr.measure g, Mode.single, Phase.openBus), (.measureRetry g, .retry, .openBus),
        (.check g, .check, .validate)],
      ∃ t, exec c.1 s = .next t ∧
        t.busy = true ∧ t.done = false ∧ t.ok = false ∧ t.err = .noError ∧ t.lastErr = .noError ∧
        t.closeFail = false ∧ t.cmdErr = false ∧ t.attempts = 0 ∧ t.mode = c.2.1 ∧ t.phase = c.2.2 ∧
        t.humidity = s.humidity ∧ t.temperature = s.temperature ∧ t.diE6 = s.diE6

/-- R222, R223, R224: the whole next state of an accepted command, so also its frame. That CHECK's acceptance clears
`cur_err` is the model's reading of R46 (log entry 10). -/
def Obligations.AcceptedCommandsExactly : Prop :=
  ∀ (g : BitVec 29) (s : State), s.busy = false →
    exec (.measure g) s = .next { s with
      busy := true, done := false, ok := false, err := .noError, lastErr := .noError, closeFail := false,
      cmdErr := false, attempts := 0, mode := .single, phase := .openBus } ∧
    exec (.measureRetry g) s = .next { s with
      busy := true, done := false, ok := false, err := .noError, lastErr := .noError, closeFail := false,
      cmdErr := false, attempts := 0, mode := .retry, phase := .openBus } ∧
    exec (.check g) s = .next { s with
      busy := true, done := false, ok := false, err := .noError, lastErr := .noError, closeFail := false,
      cmdErr := false, attempts := 0, mode := .check, phase := .validate, curErr := .noError }

/-- R225: a reserved command while idle sets CMD_ERR, and changes nothing else. -/
def Obligations.ReservedCommandWhileIdle : Prop :=
  ∀ (l : BitVec 2) (g : BitVec 29) (s : State), s.busy = false →
    exec (.reservedCmd l g) s = .next { s with cmdErr := true }

/-! ### Bus transactions -/

/-- R111: BUS_OPEN's issue step and its two completions. -/
def Obligations.BusOpenSteps : Prop :=
  ∀ s : State, s.phase = .openBus →
    (s.outstanding = none →
      exec .busOpen s = .next { s with
        attempts := s.attempts + 1, curErr := .noError,
        outstanding := some ⟨.openBus s.params.devicePath s.params.slaveAddr s.params.busRetries s.params.busTimeout,
          none⟩ }) ∧
    (∀ q, s.outstanding = some ⟨q, some .ok⟩ →
      exec .busOpen s = .next { s with outstanding := none, handleOpen := true, phase := .wake1 }) ∧
    (∀ q, s.outstanding = some ⟨q, some .err⟩ →
      exec .busOpen s = .next { s with outstanding := none, curErr := .transportError, phase := .attemptEnd })

/-- R112, R114: BUS_WAKE's issue step and its completions, in WAKE1 and in WAKE2. -/
def Obligations.BusWakeSteps : Prop :=
  ∀ s : State,
    (s.phase = .wake1 ∨ s.phase = .wake2 → s.outstanding = none →
      exec .busWake s = .next { s with outstanding := some ⟨.write [], none⟩ }) ∧
    (∀ q, s.phase = .wake1 → s.outstanding = some ⟨q, some .ok⟩ →
      exec .busWake s = .next { s with outstanding := none, holdUs := s.wakeDelay, phase := .waitWake }) ∧
    (∀ q, s.phase = .wake2 → s.outstanding = some ⟨q, some .ok⟩ →
      exec .busWake s = .next { s with outstanding := none, holdUs := s.writeModeDelay, phase := .waitWriteMode }) ∧
    (∀ q, s.phase = .wake1 ∨ s.phase = .wake2 → s.outstanding = some ⟨q, some .err⟩ →
      exec .busWake s = .next { s with outstanding := none, curErr := .wakeupError, phase := .close })

/-- R116: BUS_CMD's issue step and its two completions. -/
def Obligations.BusCmdSteps : Prop :=
  ∀ s : State, s.phase = .sendCmd →
    (s.outstanding = none →
      exec .busCmd s = .next { s with outstanding := some ⟨.write [0x03, 0x00, 0x04], none⟩ }) ∧
    (∀ q, s.outstanding = some ⟨q, some .ok⟩ →
      exec .busCmd s = .next { s with outstanding := none, holdUs := s.readDelay, phase := .waitRead }) ∧
    (∀ q, s.outstanding = some ⟨q, some .err⟩ →
      exec .busCmd s = .next { s with outstanding := none, curErr := .commandError, phase := .close })

/-- R118: BUS_READ's issue step and its completions: RESP is filled by exactly 8 bytes, in order of arrival, and is
unchanged by any other answer. -/
def Obligations.BusReadSteps : Prop :=
  ∀ s : State, s.phase = .read →
    (s.outstanding = none →
      exec .busRead s = .next { s with outstanding := some ⟨.read 8, none⟩ }) ∧
    (∀ q, s.outstanding = some ⟨q, some .err⟩ →
      exec .busRead s = .next { s with outstanding := none, curErr := .readError, phase := .close }) ∧
    (∀ q bs, s.outstanding = some ⟨q, some (.okBytes bs)⟩ → bs.length ≠ 8 →
      exec .busRead s = .next { s with outstanding := none, curErr := .readError, phase := .close }) ∧
    (∀ q b0 b1 b2 b3 b4 b5 b6 b7, s.outstanding = some ⟨q, some (.okBytes [b0, b1, b2, b3, b4, b5, b6, b7])⟩ →
      exec .busRead s = .next { s with
        outstanding := none, phase := .close,
        resp := { func := b0, count := b1, humH := b2, humL := b3, tempH := b4, tempL := b5, crcL := b6,
                  crcH := b7 } })

/-- R119: BUS_CLOSE's issue step and its two completions: `Err` sets CLOSE_FAIL and is logged, and the next phase
depends on `cur_err` alone. -/
def Obligations.BusCloseSteps : Prop :=
  ∀ s : State, s.phase = .close →
    (s.outstanding = none → exec .busClose s = .next { s with outstanding := some ⟨.close, none⟩ }) ∧
    (∀ q, s.outstanding = some ⟨q, some .ok⟩ →
      exec .busClose s = .next { s with
        outstanding := none, handleOpen := false,
        phase := if s.curErr = .noError then .validate else .attemptEnd }) ∧
    (∀ q, s.outstanding = some ⟨q, some .err⟩ →
      exec .busClose s = .next { s with
        outstanding := none, handleOpen := false, closeFail := true, log := s.log ++ [.closeFailed s.attempts],
        phase := if s.curErr = .noError then .validate else .attemptEnd })

/-- R202: between issue and answer the sequencer holds; no bus instruction changes anything. -/
def Obligations.UnansweredRequestHolds : Prop :=
  ∀ (s : State) (q : Request) (i : Instr), s.phase.instr = some i → s.outstanding = some ⟨q, none⟩ →
    exec i s = .next s

/-- The model's choice (log entry 12): a bus instruction outside its phases is a fault, and there alone. -/
def Obligations.BusInstructionOutOfPhase : Prop :=
  ∀ (s : State) (i : Instr), (busPhase i).isSome = true →
    ((∃ f, exec i s = .fault f) ↔ s.phase.instr ≠ some i)

/-- R201, R202: an answer of a shape the waiting request takes is delivered and changes nothing else; one of another
shape is refused. The last clause is the model's choice (log entry 7). -/
def Obligations.AnswerTurn : Prop :=
  ∀ (s : State) (q : Request) (a : Answer) (rest : List Turn), s.script = .answer a :: rest →
    (s.outstanding = some ⟨q, none⟩ → answerFits q a = true →
      step s = .next { s with script := rest, outstanding := some ⟨q, some a⟩ }) ∧
    (s.outstanding = some ⟨q, none⟩ → answerFits q a = false → step s = .refused .answerShape) ∧
    ((∀ n, q = .read n → a = .ok → answerFits q a = false) ∧
     (∀ bs, a = .okBytes bs → (answerFits q a = true ↔ ∃ n, q = .read n)) ∧
     (a = .err → answerFits q a = true) ∧
     ((∀ n, q ≠ .read n) → a = .ok → answerFits q a = true)) ∧
    ((∀ r, s.outstanding ≠ some ⟨r, none⟩) → step s = .refused .unsolicitedAnswer)

/-! ### Delays -/

/-- R113, R115, R117, R184: a delay phase leads to the phase after it, once its hold is over and not before. That the
hold is a count that time lowers to 0 is the model's choice (log entry 6), and so is that the sequencer's turn before then
is a step that leaves the state as it is (log entry 22; the spec only says that the step is not enabled). -/
def Obligations.DelayPhaseSteps : Prop :=
  ∀ (s : State),
    ∀ c ∈ [(Phase.waitWake, Phase.wake2), (.waitWriteMode, .sendCmd), (.waitRead, .read), (.retryWait, .openBus)],
      s.phase = c.1 →
        (s.holdUs = 0 → sequencerTurn s = .next { s with phase := c.2 }) ∧
        (s.holdUs ≠ 0 → sequencerTurn s = .next s)

/-- R282: however the elapsed time is cut into turns, the sequencer's step leaves the delay phase exactly when the time
that has passed since its entry has reached the hold. Time as turns, and the turn that changes nothing before then, are the
model's choices (log entries 6 and 22). -/
def Obligations.HoldIsALowerBound : Prop :=
  ∀ (s : State) (us : List Nat), s.phase.isDelay = true →
    s.script = us.map Turn.elapse ++ [.sequencer] →
      ∃ t, runSteps (us.length + 1) s = .next t ∧
        (t.phase = s.phase ↔ us.sum < s.holdUs.toNat)

/-! ### VALIDATE, CHECK and the response -/

/-- R166, R120: the CRC check first, then the flag, then DECODE; the CRC register is written whatever the outcome. The
accumulator's value afterwards, a free value, is left open (log entry 11). -/
def Obligations.ValidateOutcomes : Prop :=
  ∀ s : State, s.phase = .validate → s.mode ≠ .check →
    (s.resp.trailer ≠ crcCompute s.resp →
      ∃ acc n, sequencerTurn s = .next { s with
        crcAcc := acc, draws := n, crcCalc := crcCompute s.resp, crcRecv := s.resp.trailer,
        curErr := .validationError, phase := .attemptEnd }) ∧
    (s.resp.trailer = crcCompute s.resp → errorFlag s.params.errOffset s.resp = true →
      ∃ acc n, sequencerTurn s = .next { s with
        crcAcc := acc, draws := n, crcCalc := crcCompute s.resp, crcRecv := s.resp.trailer,
        curErr := .sensorReportedError, phase := .attemptEnd }) ∧
    (s.resp.trailer = crcCompute s.resp → errorFlag s.params.errOffset s.resp = false →
      ∃ acc n, sequencerTurn s = .next { s.decodeResult with
        crcAcc := acc, draws := n, crcCalc := crcCompute s.resp, crcRecv := s.resp.trailer,
        curErr := .noError, phase := .attemptEnd })

/-- R166: the order of the checks, in every mode: the CRC first, then the flag; DECODE runs after both have passed and
not otherwise. -/
def Obligations.CheckOrder : Prop :=
  ∀ s : State, s.phase = .validate →
    ∃ t, sequencerTurn s = .next t ∧
      (s.resp.trailer ≠ crcCompute s.resp →
        t.curErr = .validationError ∧ t.humidity = s.humidity ∧ t.temperature = s.temperature ∧ t.diE6 = s.diE6) ∧
      (s.resp.trailer = crcCompute s.resp → errorFlag s.params.errOffset s.resp = true →
        t.curErr = .sensorReportedError ∧ t.humidity = s.humidity ∧ t.temperature = s.temperature ∧
          t.diE6 = s.diE6) ∧
      (s.resp.trailer = crcCompute s.resp → errorFlag s.params.errOffset s.resp = false →
        t.curErr = .noError ∧ t.humidity = s.decodeResult.humidity ∧ t.temperature = s.decodeResult.temperature ∧
          t.diE6 = s.decodeResult.diE6)

/-- R224: CHECK's sequencer step validates, decodes and completes the command at once, with no transaction, no event and
RESP unchanged. -/
def Obligations.CheckCompletes : Prop :=
  ∀ s : State, s.phase = .validate → s.mode = .check →
    (s.resp.trailer ≠ crcCompute s.resp →
      ∃ acc n, sequencerTurn s = .next { s with
        crcAcc := acc, draws := n, crcCalc := crcCompute s.resp, crcRecv := s.resp.trailer, curErr := .validationError,
        lastErr := .validationError, err := .validationError, ok := false, done := true, busy := false,
        phase := .idle }) ∧
    (s.resp.trailer = crcCompute s.resp → errorFlag s.params.errOffset s.resp = true →
      ∃ acc n, sequencerTurn s = .next { s with
        crcAcc := acc, draws := n, crcCalc := crcCompute s.resp, crcRecv := s.resp.trailer, curErr := .sensorReportedError,
        lastErr := .sensorReportedError, err := .sensorReportedError, ok := false, done := true, busy := false,
        phase := .idle }) ∧
    (s.resp.trailer = crcCompute s.resp → errorFlag s.params.errOffset s.resp = false →
      ∃ acc n, sequencerTurn s = .next { s.decodeResult with
        crcAcc := acc, draws := n, crcCalc := crcCompute s.resp, crcRecv := s.resp.trailer, curErr := .noError,
        lastErr := .noError, err := .noError, ok := true, done := true, busy := false, phase := .idle })

/-- R90: the flag is bit 7 of the byte that P_ERR_OFFSET names, by default byte 0. -/
def Obligations.ErrorFlagBit : Prop :=
  (∀ r : Response,
    (errorFlag .byte0 r = true ↔ 0x80 ≤ r.func.toNat) ∧ (errorFlag .byte2 r = true ↔ 0x80 ≤ r.humH.toNat)) ∧
  Config.params.errOffset = .byte0

/-- R162, R163, R164, R165: what DECODE leaves, in integers: humidity and temperature in tenths under either encoding,
and the discomfort index, exactly. -/
def Obligations.DecodeWritesReading : Prop :=
  ∀ s : State,
    let t := s.decodeResult
    let raw := 256 * s.resp.tempH.toNat + s.resp.tempL.toNat
    (t.humidity.toNat = 256 * s.resp.humH.toNat + s.resp.humL.toNat) ∧
    (s.params.tempEncoding = .unsigned → t.temperature.toInt = raw) ∧
    (s.params.tempEncoding = .signMagnitude → raw < 0x8000 → t.temperature.toInt = raw) ∧
    (s.params.tempEncoding = .signMagnitude → 0x8000 ≤ raw → t.temperature.toInt = 0x8000 - (raw : Int)) ∧
    (t.diE6.toInt = 81000 * t.temperature.toInt + 99 * t.humidity.toNat * t.temperature.toInt
      - 14300 * t.humidity.toNat + 46300000) ∧
    (t = { s with humidity := t.humidity, temperature := t.temperature, diE6 := t.diE6 })

/-- R168: the ranges of the decoded values. -/
def Obligations.DecodedRanges : Prop :=
  ∀ s : State,
    (s.params.tempEncoding = .signMagnitude →
      -32767 ≤ s.decodeResult.temperature.toInt ∧ s.decodeResult.temperature.toInt ≤ 32767) ∧
    (s.params.tempEncoding = .unsigned →
      0 ≤ s.decodeResult.temperature.toInt ∧ s.decodeResult.temperature.toInt ≤ 65535) ∧
    -216136126655 ≤ s.decodeResult.diE6.toInt ∧ s.decodeResult.diE6.toInt ≤ 429606270775

/-- R167: checking the same RESP twice gives the same reading: the second CHECK's two steps change no result register. -/
def Obligations.CheckTwiceSameReading : Prop :=
  ∀ (s : State) (v : Word), s.busy = false → v.toNat % 8 = 3 →
    s.script = [.host (wr 0x00 v), .sequencer, .host (wr 0x00 v), .sequencer] →
      ∃ t u, runSteps 2 s = .next t ∧ runSteps 4 s = .next u ∧
        u.humidity = t.humidity ∧ u.temperature = t.temperature ∧ u.diE6 = t.diE6 ∧
        u.crcCalc = t.crcCalc ∧ u.crcRecv = t.crcRecv ∧ u.statusWord = t.statusWord

/-! ### CRC -/

/-- R91: the trailer is little-endian, byte 7 the high byte and byte 6 the low one; so the source's example with its two
trailer bytes swapped fails (R144). -/
def Obligations.TrailerByteOrder : Prop :=
  (∀ r : Response, r.trailer.toNat = 256 * r.crcH.toNat + r.crcL.toNat) ∧
  crcValid ⟨0x03, 0x04, 0x02, 0x5B, 0x01, 0x13, 0xC1, 0xDE⟩ = true ∧
  crcValid ⟨0x03, 0x04, 0x02, 0x5B, 0x01, 0x13, 0xDE, 0xC1⟩ = false

/-- R143: the CRC's example and its two corner cases. -/
def Obligations.CrcExamples : Prop :=
  ∀ crcL crcH : Byte,
    crcCompute ⟨0x03, 0x04, 0x02, 0x5B, 0x01, 0x13, crcL, crcH⟩ = 0xDEC1 ∧
    crcCompute ⟨0, 0, 0, 0, 0, 0, crcL, crcH⟩ = 0x1B00 ∧
    crcCompute ⟨0xFF, 0xFF, 0xFF, 0xFF, 0xFF, 0xFF, crcL, crcH⟩ = 0x9401

/-- R140, R147: for every buffer the computed CRC is that of an independently written reference, the unreflected
register with polynomial 0x8005, most significant bit first. -/
def Obligations.CrcAgreesWithReference : Prop :=
  ∀ r : Response, crcCompute r = refCrc r.covered

/-- R146: a single flipped bit in bytes 0 to 5 changes the computed CRC and not the trailer, one in bytes 6 and 7 the
trailer and not the computed CRC; so a valid buffer with one bit flipped is never valid. -/
def Obligations.SingleBitFlipDetected : Prop :=
  ∀ (r : Response) (i j : Fin 8),
    (i.val < 6 → crcCompute (r.flipBit i j) ≠ crcCompute r ∧ (r.flipBit i j).trailer = r.trailer) ∧
    (6 ≤ i.val → crcCompute (r.flipBit i j) = crcCompute r ∧ (r.flipBit i j).trailer ≠ r.trailer) ∧
    (crcValid r = true → crcValid (r.flipBit i j) = false)

/-! ### ATTEMPT_END -/

/-- R181: the successful end of an attempt. -/
def Obligations.AttemptEndSuccess : Prop :=
  ∀ s : State, s.phase = .attemptEnd → s.curErr = .noError → s.mode ≠ .check →
    sequencerTurn s =
      .next { s with ok := true, err := .noError, done := true, busy := false, phase := .idle }

/-- R182: the failed end of an attempt in mode SINGLE. -/
def Obligations.AttemptEndSingleFailure : Prop :=
  ∀ s : State, s.phase = .attemptEnd → s.curErr ≠ .noError → s.mode = .single →
    sequencerTurn s = .next { s with
      lastErr := s.curErr, log := s.log ++ [.attemptFailed s.attempts s.curErr], err := s.curErr, ok := false,
      done := true, busy := false, phase := .idle }

/-- R183: the failed end of an attempt in mode RETRY, with the bound check. -/
def Obligations.AttemptEndRetryFailure : Prop :=
  ∀ s : State, s.phase = .attemptEnd → s.curErr ≠ .noError → s.mode = .retry →
    (s.maxRetries.toNat < s.attempts.toNat →
      sequencerTurn s = .next { s with
        lastErr := s.curErr, log := s.log ++ [.attemptFailed s.attempts s.curErr], err := .retriesExhausted,
        ok := false, done := true, busy := false, phase := .idle }) ∧
    (s.attempts.toNat ≤ s.maxRetries.toNat →
      sequencerTurn s = .next { s with
        lastErr := s.curErr, log := s.log ++ [.attemptFailed s.attempts s.curErr], holdUs := s.retryDelay,
        phase := .retryWait })

/-! ### Register accesses -/

/-- R230: what a read of each register returns; it completes and changes nothing of the block. While OK = 0 a read of
a result register returns some value of the register's width (R232). -/
def Obligations.RegisterReads : Prop :=
  ∀ s : State,
    ReadsAs s 0x00 0 ∧ ReadsAs s 0x04 s.statusWord ∧ ReadsAs s 0x08 (s.maxRetries.setWidth 32) ∧
    ReadsAs s 0x0C s.wakeDelay ∧ ReadsAs s 0x10 s.writeModeDelay ∧ ReadsAs s 0x14 s.readDelay ∧
    ReadsAs s 0x18 s.retryDelay ∧
    ReadsAs s 0x1C (s.resp.humL ++ s.resp.humH ++ s.resp.count ++ s.resp.func : BitVec (8 + 8 + 8 + 8)) ∧
    ReadsAs s 0x20 (s.resp.crcH ++ s.resp.crcL ++ s.resp.tempL ++ s.resp.tempH : BitVec (8 + 8 + 8 + 8)) ∧
    (s.ok = true → ReadsAs s 0x24 (s.humidity.setWidth 32) ∧ ReadsAs s 0x28 s.temperature ∧
      ReadsAs s 0x2C (s.diE6.extractLsb' 0 32) ∧ ReadsAs s 0x30 (s.diE6.extractLsb' 32 32)) ∧
    (s.ok = false → (∃ v, ReadsAs s 0x24 v ∧ v.toNat < 65536) ∧ (∃ v, ReadsAs s 0x28 v) ∧
      (∃ v, ReadsAs s 0x2C v) ∧ (∃ v, ReadsAs s 0x30 v)) ∧
    ReadsAs s 0x34 (s.crcRecv ++ s.crcCalc : BitVec (16 + 16)) ∧ ReadsAs s 0x38 (s.attempts.setWidth 32) ∧
    ReadsAs s 0x3C 0

/-- R21: the fields of STATUS, each at its bits; the reserved bits read 0; a write to STATUS is ignored as a whole; every
field resets to 0. -/
def Obligations.StatusLayout : Prop :=
  (∀ s : State, ReadsAs s 0x04 s.statusWord ∧
    s.statusWord.getLsbD 0 = s.busy ∧ s.statusWord.getLsbD 1 = s.done ∧ s.statusWord.getLsbD 2 = s.ok ∧
    s.statusWord.extractLsb' 3 4 = s.err.code ∧ s.statusWord.getLsbD 7 = s.closeFail ∧
    s.statusWord.getLsbD 8 = s.cmdErr ∧ s.statusWord.extractLsb' 9 3 = 0 ∧
    s.statusWord.extractLsb' 12 4 = s.phase.code ∧ s.statusWord.extractLsb' 16 4 = s.lastErr.code ∧
    s.statusWord.extractLsb' 20 12 = 0) ∧
  (∀ (v : Word) (s : State), exec (.regWrite 0x04 v) s = .next s) ∧ State.reset.statusWord = 0

/-- R27, R240, R95: the codes of the phases and of the errors, and the codes that STATUS never shows. -/
def Obligations.StatusCodes : Prop :=
  [Phase.idle, .openBus, .wake1, .waitWake, .wake2, .waitWriteMode, .sendCmd, .waitRead, .read, .close, .validate,
    .attemptEnd, .retryWait].map Phase.code = [0, 1, 2, 3, 4, 5, 6, 7, 8, 9, 10, 11, 12] ∧
  [ErrCode.noError, .transportError, .wakeupError, .commandError, .readError, .validationError, .sensorReportedError,
    .retriesExhausted].map ErrCode.code = [0, 1, 2, 3, 4, 5, 6, 7] ∧
  (∀ s : State, (s.statusWord.extractLsb' 3 4).toNat < 8 ∧ (s.statusWord.extractLsb' 16 4).toNat < 8 ∧
    (s.statusWord.extractLsb' 12 4).toNat < 13)

/-- R231: writes to the read/write registers while idle, each exactly. -/
def Obligations.RegisterWritesWhileIdle : Prop :=
  ∀ (v : Word) (s : State), s.busy = false →
    exec (.regWrite 0x08 v) s = .next { s with maxRetries := v.extractLsb' 0 8 } ∧
    exec (.regWrite 0x0C v) s = .next { s with wakeDelay := v } ∧
    exec (.regWrite 0x10 v) s = .next { s with writeModeDelay := v } ∧
    exec (.regWrite 0x14 v) s = .next { s with readDelay := v } ∧
    exec (.regWrite 0x18 v) s = .next { s with retryDelay := v } ∧
    exec (.regWrite 0x1C v) s = .next { s with resp := { s.resp with
      func := v.extractLsb' 0 8, count := v.extractLsb' 8 8, humH := v.extractLsb' 16 8,
      humL := v.extractLsb' 24 8 } } ∧
    exec (.regWrite 0x20 v) s = .next { s with resp := { s.resp with
      tempH := v.extractLsb' 0 8, tempL := v.extractLsb' 8 8, crcL := v.extractLsb' 16 8,
      crcH := v.extractLsb' 24 8 } }

/-- R227: a write to a read/write register while BUSY = 1 is ignored and sets CMD_ERR. -/
def Obligations.RegisterWritesWhileBusy : Prop :=
  ∀ (v : Word) (s : State), s.busy = true →
    ∀ off ∈ [0x08, 0x0C, 0x10, 0x14, 0x18, 0x1C, 0x20],
      exec (.regWrite off v) s = .next { s with cmdErr := true }

/-- R64, R231: a write to a read-only register or to 0x3C is ignored, idle or busy, without CMD_ERR. -/
def Obligations.ReadOnlyWritesIgnored : Prop :=
  ∀ (v : Word) (s : State), ∀ off ∈ [0x04, 0x24, 0x28, 0x2C, 0x30, 0x34, 0x38, 0x3C],
    exec (.regWrite off v) s = .next s

/-- R64, R92: while idle, a read of a register just written returns what was written, MAX_RETRIES its low 8 bits. -/
def Obligations.ReadAfterWrite : Prop :=
  ∀ (v : Word) (s : State), s.busy = false →
    (∀ off ∈ [0x0C, 0x10, 0x14, 0x18, 0x1C, 0x20],
      ∃ t, exec (.regWrite off v) s = .next t ∧ ReadsAs t off v) ∧
    (∃ t, exec (.regWrite 0x08 v) s = .next t ∧ ReadsAs t 0x08 (v &&& 0xFF))

/-! ### Reset -/

/-- R271: the values the spec gives for reset. -/
def Obligations.ResetValues : Prop :=
  State.reset.statusWord = 0 ∧ State.reset.maxRetries = 5 ∧ State.reset.wakeDelay = 800 ∧
  State.reset.writeModeDelay = 1500 ∧ State.reset.readDelay = 30 ∧ State.reset.retryDelay = 300000 ∧
  State.reset.attempts = 0 ∧ State.reset.phase = .idle ∧ State.reset.mode = .single ∧
  State.reset.handleOpen = false ∧ State.reset.curErr = .noError ∧ State.reset.holdUs = 0 ∧
  State.reset.outstanding = none

/-- R270, R272: the reset input abandons whatever is running: every register with a reset value takes it, the request and
the handle are forgotten, and no event is emitted; a late answer is discarded. -/
def Obligations.ResetTurn : Prop :=
  (∀ (s : State) (rest : List Turn), s.script = .reset :: rest →
    ∃ t, step s = .next t ∧ t.statusWord = 0 ∧ t.maxRetries = 5 ∧ t.wakeDelay = 800 ∧ t.writeModeDelay = 1500 ∧
      t.readDelay = 30 ∧ t.retryDelay = 300000 ∧ t.attempts = 0 ∧ t.phase = .idle ∧ t.mode = .single ∧
      t.handleOpen = false ∧ t.curErr = .noError ∧ t.holdUs = 0 ∧ t.outstanding = none ∧ t.log = s.log ∧
      t.params = s.params ∧ t.script = rest) ∧
  (∀ (s : State) (a : Answer) (rest : List Turn), s.script = .lateAnswer a :: rest →
    step s = .next { s with script := rest })

/-! ### The machine as a whole -/

/-- The invariant holds at reset. -/
def Obligations.ResetMeetsInvariant : Prop := State.reset.Inv

/-- Every step keeps the invariant. -/
def Obligations.StepKeepsInvariant : Prop :=
  ∀ s t : State, s.Inv → step s = .next t → t.Inv

/-- R241: an error is never a fault of the block: from a state the rules produce, no step faults. -/
def Obligations.StepNeverFaults : Prop :=
  ∀ s : State, s.Inv → NoFault (step s)

/-- From a state the rules produce, a step answers a next state unless the turn is an undefined host access (R62), an
answer of a shape the waiting request does not take (R201), or an answer that no request waits for (refused by the model's
choice, log entry 7). The next state may be the same state: where the sequencer has no enabled step the spec says stuck
(R18, U7), and the unchanged next state is the model's choice (log entry 22). -/
def Obligations.StepAnswersNextState : Prop :=
  ∀ s : State, s.Inv →
    (∀ a rest, s.script = .host a :: rest → ∃ i, decode s.params (fetchHost a) = .instr i) →
    (∀ a rest, s.script = .answer a :: rest → ∃ q, s.outstanding = some ⟨q, none⟩ ∧ answerFits q a = true) →
    ∃ t, step s = .next t

/-- R43, R110: a step leaves the phase, or goes to one of its successors, or is a reset; the only backward transition is
RETRY_WAIT to OPEN. IDLE is left, and BUSY becomes 1, only in a host turn that writes CMD 1, 2 or 3 to CTRL (R22, R51,
R228, R273). -/
def Obligations.PhaseSuccession : Prop :=
  ∀ s t : State, s.Inv → step s = .next t →
    (t.phase = s.phase ∨ t.phase ∈ s.phase.successors ∨ s.script.head? = some .reset) ∧
    (s.phase = .idle → t.phase ≠ .idle ∨ t.busy = true →
      ∃ v rest, s.script = .host (.write .bits32 0x00 v) :: rest ∧ 1 ≤ v.toNat % 8 ∧ v.toNat % 8 ≤ 3)

/-- R24, R256, R166: the result registers change only in a VALIDATE step whose buffer passes both checks (or at reset);
R40: the CRC register changes only in a VALIDATE step (or at reset), to the computed CRC and the trailer. -/
def Obligations.ResultsOnlyFromDecode : Prop :=
  ∀ s t : State, step s = .next t → s.script.head? ≠ some .reset →
    ((t.humidity = s.humidity ∧ t.temperature = s.temperature ∧ t.diE6 = s.diE6) ∨
      (s.phase = .validate ∧ crcValid s.resp = true ∧ errorFlag s.params.errOffset s.resp = false ∧
        t.humidity = s.decodeResult.humidity ∧ t.temperature = s.decodeResult.temperature ∧
        t.diE6 = s.decodeResult.diE6)) ∧
    ((t.crcCalc = s.crcCalc ∧ t.crcRecv = s.crcRecv) ∨
      (s.phase = .validate ∧ t.crcCalc = crcCompute s.resp ∧ t.crcRecv = s.resp.trailer))

/-- R75, R189, R118, R122: while a command runs no configuration register changes, and RESP changes only by a completed
8-byte read, to the bytes read (or at reset); the parameters never change. -/
def Obligations.StableWhileBusy : Prop :=
  ∀ s t : State, step s = .next t →
    t.params = s.params ∧
    (s.busy = true → s.script.head? ≠ some .reset →
      t.maxRetries = s.maxRetries ∧ t.wakeDelay = s.wakeDelay ∧ t.writeModeDelay = s.writeModeDelay ∧
      t.readDelay = s.readDelay ∧ t.retryDelay = s.retryDelay ∧
      (t.resp = s.resp ∨ (s.phase = .read ∧
        ∃ q bs, s.outstanding = some ⟨q, some (.okBytes bs)⟩ ∧ bs.length = 8 ∧ Response.ofBytes bs = some t.resp)))

/-- R124, R250: no host access disturbs a running command: but for CMD_ERR and the reads' answers, the state is the same. -/
def Obligations.HostCannotDisturbCommand : Prop :=
  ∀ (s t : State) (a : HostAccess) (rest : List Turn), s.busy = true → s.script = .host a :: rest →
    step s = .next t →
      t = { s with script := rest, cmdErr := t.cmdErr, reads := t.reads, draws := t.draws } ∧
      (s.cmdErr = true → t.cmdErr = true)

/-- R258: a step emits at most one event, CLOSE_FAILED at a BUS_CLOSE answered `Err`, ATTEMPT_FAILED at a failing
ATTEMPT_END, and nothing else. -/
def Obligations.LogEvents : Prop :=
  ∀ s t : State, step s = .next t →
    t.log = s.log ∨
    (s.phase = .close ∧ (∃ q, s.outstanding = some ⟨q, some .err⟩) ∧ t.log = s.log ++ [.closeFailed s.attempts]) ∨
    (s.phase = .attemptEnd ∧ s.curErr ≠ .noError ∧ t.log = s.log ++ [.attemptFailed s.attempts s.curErr])

/-- R48, R77, R202, R207: a request is issued only when none is outstanding; it is the phase's request, an OPEN exactly
when the block holds no handle. While one is outstanding a step leaves it, delivers its one answer, or ends it. -/
def Obligations.RequestDiscipline : Prop :=
  ∀ (s t : State) (p : Pending), s.Inv → step s = .next t →
    (s.outstanding = none → t.outstanding = some p →
      s.phase.request s.params = some p.request ∧ p.answer = none ∧
      (s.handleOpen = false ↔ p.request = openRequest s.params)) ∧
    (s.outstanding = some p →
      t.outstanding = none ∨ t.outstanding = some p ∨
      (p.answer = none ∧ ∃ a, t.outstanding = some ⟨p.request, some a⟩))

/-! ### Whole commands -/

/-- R110, R181, R222, R223: from any idle state, a MEASURE or MEASURE_RETRY whose transactions all succeed, whose holds
last long enough and whose 8 bytes pass both checks ends with OK = 1 and the decoded reading, in one attempt. The turns
and the time that passes are the script's (log entries 1 and 6). -/
def Obligations.CleanMeasureSucceeds : Prop :=
  ∀ (s : State) (r : Response) (cmd : Word) (w1 w2 w3 : Nat), s.Inv → s.busy = false →
    cmd = 1 ∨ cmd = 2 →
    s.wakeDelay.toNat ≤ w1 → s.writeModeDelay.toNat ≤ w2 → s.readDelay.toNat ≤ w3 →
    crcValid r = true → errorFlag s.params.errOffset r = false →
    s.script = .host (wr 0x00 cmd) :: cleanAttempt w1 w2 w3
      [r.func, r.count, r.humH, r.humL, r.tempH, r.tempL, r.crcL, r.crcH] →
      ∃ t, runSteps 27 s = .next t ∧ t.runOver = true ∧ t.statusWord = 0x00000006 ∧ t.attempts = 1 ∧
        t.resp = r ∧ t.log = s.log ∧ t.handleOpen = false ∧ t.crcCalc = r.trailer ∧ t.crcRecv = r.trailer ∧
        t.humidity = ({ s with resp := r }).decodeResult.humidity ∧
        t.temperature = ({ s with resp := r }).decodeResult.temperature ∧
        t.diE6 = ({ s with resp := r }).decodeResult.diE6

/-- R183, R185: under a transport that fails every open, MEASURE_RETRY with bound B makes exactly B + 1 attempts and ends
with RetriesExhausted, LAST_ERR the last attempt's TransportError, and one ATTEMPT_FAILED event per attempt. The turns and
the time that passes are the script's (log entries 1 and 6). -/
def Obligations.RetriesExhaustAfterBound : Prop :=
  ∀ (s : State) (us : Nat), s.Inv → s.busy = false → s.retryDelay.toNat ≤ us →
    s.script = .host (wr 0x00 2) :: (failingOpens us s.maxRetries.toNat ++ failingOpen) →
      ∃ t, runSteps (s.maxRetries.toNat * 6 + 5) s = .next t ∧ t.runOver = true ∧
        t.statusWord = 0x0001003A ∧ t.attempts.toNat = s.maxRetries.toNat + 1 ∧
        t.log = s.log ++ failureEvents 1 (s.maxRetries.toNat + 1)
end

