-- ==== Sys2Proof/Laws/Bits.lean ====
section
/-!
SUPPORT. The bits of the words that are put together from fields: the CTRL word, pairs and words of response bytes, and
STATUS; and what a CTRL word's fields decode to.
-/

namespace Sys2Proof.Machine

/-! ### The CTRL word (R81) -/

theorem ctrlWord_getLsbD (g : BitVec 29) (c : BitVec 3) (i : Nat) :
    (ctrlWord g c).getLsbD i = if i < 3 then c.getLsbD i else g.getLsbD (i - 3) :=
  BitVec.getLsbD_append

theorem ctrlCmd_ctrlWord (g : BitVec 29) (c : BitVec 3) : ctrlCmd (ctrlWord g c) = c := by
  refine BitVec.eq_of_getLsbD_eq fun i hi => ?_
  simp [ctrlCmd, ctrlWord_getLsbD, hi]

theorem ctrlIgnored_ctrlWord (g : BitVec 29) (c : BitVec 3) : ctrlIgnored (ctrlWord g c) = g := by
  refine BitVec.eq_of_getLsbD_eq fun i hi => ?_
  simp [ctrlIgnored, ctrlWord_getLsbD, hi]

theorem ctrlWord_fields (v : Word) : ctrlWord (ctrlIgnored v) (ctrlCmd v) = v := by
  refine BitVec.eq_of_getLsbD_eq fun i hi => ?_
  rw [ctrlWord_getLsbD]
  split
  · simp [ctrlCmd, *]
  · have h1 : i - 3 < 29 := by omega
    have h2 : 3 + (i - 3) = i := by omega
    simp [ctrlIgnored, h1, h2]

/-- CMD[1:0], as RESERVED_CMD keeps it. -/
theorem low_of_ctrlCmd (v : Word) : v.extractLsb' 0 2 = (ctrlCmd v).extractLsb' 0 2 := by
  refine BitVec.eq_of_getLsbD_eq fun i hi => ?_
  simp [ctrlCmd, hi]

theorem ctrlCmd_toNat (v : Word) : (ctrlCmd v).toNat = v.toNat % 8 := by
  simp [ctrlCmd, BitVec.extractLsb'_toNat]

/-! ### Response bytes (R69, R88, R92) -/

theorem pairValue_toNat (h l : Byte) : (pairValue h l).toNat = 256 * h.toNat + l.toNat := by
  have e : (pairValue h l).toNat = h.toNat <<< 8 ||| l.toNat := BitVec.toNat_append h l
  rw [e, Nat.shiftLeft_eq, Nat.mul_comm]
  exact (Nat.two_pow_add_eq_or_of_lt l.isLt h.toNat).symm

theorem append4_getLsbD (a b c d : Byte) (i : Nat) :
    (a ++ b ++ c ++ d : BitVec (8 + 8 + 8 + 8)).getLsbD i =
      if i < 8 then d.getLsbD i
      else if i < 16 then c.getLsbD (i - 8)
      else if i < 24 then b.getLsbD (i - 16)
      else a.getLsbD (i - 24) := by
  simp only [BitVec.getLsbD_append]
  split
  · rfl
  · have e1 : (i - 8 < 8) ↔ i < 16 := by omega
    have e2 : (i - 16 < 8) ↔ i < 24 := by omega
    have e3 : i - 8 - 8 = i - 16 := by omega
    have e4 : i - 16 - 8 = i - 24 := by omega
    simp only [e1, e2, e3, e4]

/-- Four bytes taken from a word and put together again are the word. -/
theorem append4_extract (v : Word) :
    (v.extractLsb' 24 8 ++ v.extractLsb' 16 8 ++ v.extractLsb' 8 8 ++ v.extractLsb' 0 8 : BitVec (8 + 8 + 8 + 8)) = v := by
  refine BitVec.eq_of_getLsbD_eq fun i hi => ?_
  refine (append4_getLsbD _ _ _ _ i).trans ?_
  have hi' : i < 32 := hi
  simp only [BitVec.getLsbD_extractLsb']
  split
  · simp [*]
  split
  · have h1 : i - 8 < 8 := by omega
    have h2 : 8 + (i - 8) = i := by omega
    simp [h1, h2]
  split
  · have h1 : i - 16 < 8 := by omega
    have h2 : 16 + (i - 16) = i := by omega
    simp [h1, h2]
  · have h1 : i - 24 < 8 := by omega
    have h2 : 24 + (i - 24) = i := by omega
    simp [h1, h2]

theorem Response.wordLo_setWordLo (v : Word) (r : Response) : (r.setWordLo v).wordLo = v := append4_extract v

theorem Response.wordHi_setWordHi (v : Word) (r : Response) : (r.setWordHi v).wordHi = v := append4_extract v

/-! ### STATUS (R21) -/

theorem State.statusWord_toNat (s : State) :
    s.statusWord.toNat =
      s.busy.toNat + 2 * s.done.toNat + 4 * s.ok.toNat + 8 * s.err.code.toNat + 128 * s.closeFail.toNat
        + 256 * s.cmdErr.toNat + 4096 * s.phase.code.toNat + 65536 * s.lastErr.code.toNat := by
  have key : ∀ {n m : Nat} (x : BitVec n) (y : BitVec m), (x ++ y).toNat = 2 ^ m * x.toNat + y.toNat := by
    intro n m x y
    rw [BitVec.toNat_append, Nat.shiftLeft_eq, Nat.mul_comm]
    exact (Nat.two_pow_add_eq_or_of_lt y.isLt x.toNat).symm
  have hb : ∀ b : Bool, (BitVec.ofBool b).toNat = b.toNat := by decide
  unfold State.statusWord
  refine (key _ _).trans ?_
  simp only [key, hb]
  simp
  omega

end Sys2Proof.Machine
end

