-- ==== Sys2Proof/Laws/State.lean ====
section
/-!
SUPPORT. The small lemmas of the state's updates: one per field per update, so that no proof unfolds a record update.
-/

namespace Sys2Proof.Machine

section
variable (s : State)

@[simp] theorem State.setCmdErr_maxRetries : (s.setCmdErr).maxRetries = s.maxRetries := rfl
@[simp] theorem State.setCmdErr_wakeDelay : (s.setCmdErr).wakeDelay = s.wakeDelay := rfl
@[simp] theorem State.setCmdErr_writeModeDelay : (s.setCmdErr).writeModeDelay = s.writeModeDelay := rfl
@[simp] theorem State.setCmdErr_readDelay : (s.setCmdErr).readDelay = s.readDelay := rfl
@[simp] theorem State.setCmdErr_retryDelay : (s.setCmdErr).retryDelay = s.retryDelay := rfl
@[simp] theorem State.setCmdErr_busy : (s.setCmdErr).busy = s.busy := rfl
@[simp] theorem State.setCmdErr_done : (s.setCmdErr).done = s.done := rfl
@[simp] theorem State.setCmdErr_ok : (s.setCmdErr).ok = s.ok := rfl
@[simp] theorem State.setCmdErr_err : (s.setCmdErr).err = s.err := rfl
@[simp] theorem State.setCmdErr_closeFail : (s.setCmdErr).closeFail = s.closeFail := rfl
@[simp] theorem State.setCmdErr_cmdErr : (s.setCmdErr).cmdErr = true := rfl
@[simp] theorem State.setCmdErr_lastErr : (s.setCmdErr).lastErr = s.lastErr := rfl
@[simp] theorem State.setCmdErr_phase : (s.setCmdErr).phase = s.phase := rfl
@[simp] theorem State.setCmdErr_resp : (s.setCmdErr).resp = s.resp := rfl
@[simp] theorem State.setCmdErr_humidity : (s.setCmdErr).humidity = s.humidity := rfl
@[simp] theorem State.setCmdErr_temperature : (s.setCmdErr).temperature = s.temperature := rfl
@[simp] theorem State.setCmdErr_diE6 : (s.setCmdErr).diE6 = s.diE6 := rfl
@[simp] theorem State.setCmdErr_crcCalc : (s.setCmdErr).crcCalc = s.crcCalc := rfl
@[simp] theorem State.setCmdErr_crcRecv : (s.setCmdErr).crcRecv = s.crcRecv := rfl
@[simp] theorem State.setCmdErr_attempts : (s.setCmdErr).attempts = s.attempts := rfl
@[simp] theorem State.setCmdErr_mode : (s.setCmdErr).mode = s.mode := rfl
@[simp] theorem State.setCmdErr_handleOpen : (s.setCmdErr).handleOpen = s.handleOpen := rfl
@[simp] theorem State.setCmdErr_curErr : (s.setCmdErr).curErr = s.curErr := rfl
@[simp] theorem State.setCmdErr_holdUs : (s.setCmdErr).holdUs = s.holdUs := rfl
@[simp] theorem State.setCmdErr_outstanding : (s.setCmdErr).outstanding = s.outstanding := rfl
@[simp] theorem State.setCmdErr_crcAcc : (s.setCmdErr).crcAcc = s.crcAcc := rfl
@[simp] theorem State.setCmdErr_log : (s.setCmdErr).log = s.log := rfl
@[simp] theorem State.setCmdErr_reads : (s.setCmdErr).reads = s.reads := rfl
@[simp] theorem State.setCmdErr_params : (s.setCmdErr).params = s.params := rfl
@[simp] theorem State.setCmdErr_script : (s.setCmdErr).script = s.script := rfl
@[simp] theorem State.setCmdErr_draws : (s.setCmdErr).draws = s.draws := rfl

end

section
variable (s : State)

@[simp] theorem State.setCloseFail_maxRetries : (s.setCloseFail).maxRetries = s.maxRetries := rfl
@[simp] theorem State.setCloseFail_wakeDelay : (s.setCloseFail).wakeDelay = s.wakeDelay := rfl
@[simp] theorem State.setCloseFail_writeModeDelay : (s.setCloseFail).writeModeDelay = s.writeModeDelay := rfl
@[simp] theorem State.setCloseFail_readDelay : (s.setCloseFail).readDelay = s.readDelay := rfl
@[simp] theorem State.setCloseFail_retryDelay : (s.setCloseFail).retryDelay = s.retryDelay := rfl
@[simp] theorem State.setCloseFail_busy : (s.setCloseFail).busy = s.busy := rfl
@[simp] theorem State.setCloseFail_done : (s.setCloseFail).done = s.done := rfl
@[simp] theorem State.setCloseFail_ok : (s.setCloseFail).ok = s.ok := rfl
@[simp] theorem State.setCloseFail_err : (s.setCloseFail).err = s.err := rfl
@[simp] theorem State.setCloseFail_closeFail : (s.setCloseFail).closeFail = true := rfl
@[simp] theorem State.setCloseFail_cmdErr : (s.setCloseFail).cmdErr = s.cmdErr := rfl
@[simp] theorem State.setCloseFail_lastErr : (s.setCloseFail).lastErr = s.lastErr := rfl
@[simp] theorem State.setCloseFail_phase : (s.setCloseFail).phase = s.phase := rfl
@[simp] theorem State.setCloseFail_resp : (s.setCloseFail).resp = s.resp := rfl
@[simp] theorem State.setCloseFail_humidity : (s.setCloseFail).humidity = s.humidity := rfl
@[simp] theorem State.setCloseFail_temperature : (s.setCloseFail).temperature = s.temperature := rfl
@[simp] theorem State.setCloseFail_diE6 : (s.setCloseFail).diE6 = s.diE6 := rfl
@[simp] theorem State.setCloseFail_crcCalc : (s.setCloseFail).crcCalc = s.crcCalc := rfl
@[simp] theorem State.setCloseFail_crcRecv : (s.setCloseFail).crcRecv = s.crcRecv := rfl
@[simp] theorem State.setCloseFail_attempts : (s.setCloseFail).attempts = s.attempts := rfl
@[simp] theorem State.setCloseFail_mode : (s.setCloseFail).mode = s.mode := rfl
@[simp] theorem State.setCloseFail_handleOpen : (s.setCloseFail).handleOpen = s.handleOpen := rfl
@[simp] theorem State.setCloseFail_curErr : (s.setCloseFail).curErr = s.curErr := rfl
@[simp] theorem State.setCloseFail_holdUs : (s.setCloseFail).holdUs = s.holdUs := rfl
@[simp] theorem State.setCloseFail_outstanding : (s.setCloseFail).outstanding = s.outstanding := rfl
@[simp] theorem State.setCloseFail_crcAcc : (s.setCloseFail).crcAcc = s.crcAcc := rfl
@[simp] theorem State.setCloseFail_log : (s.setCloseFail).log = s.log := rfl
@[simp] theorem State.setCloseFail_reads : (s.setCloseFail).reads = s.reads := rfl
@[simp] theorem State.setCloseFail_params : (s.setCloseFail).params = s.params := rfl
@[simp] theorem State.setCloseFail_script : (s.setCloseFail).script = s.script := rfl
@[simp] theorem State.setCloseFail_draws : (s.setCloseFail).draws = s.draws := rfl

end

section
variable (o : Bool) (e : ErrCode) (s : State)

@[simp] theorem State.finish_maxRetries : (s.finish o e).maxRetries = s.maxRetries := rfl
@[simp] theorem State.finish_wakeDelay : (s.finish o e).wakeDelay = s.wakeDelay := rfl
@[simp] theorem State.finish_writeModeDelay : (s.finish o e).writeModeDelay = s.writeModeDelay := rfl
@[simp] theorem State.finish_readDelay : (s.finish o e).readDelay = s.readDelay := rfl
@[simp] theorem State.finish_retryDelay : (s.finish o e).retryDelay = s.retryDelay := rfl
@[simp] theorem State.finish_busy : (s.finish o e).busy = false := rfl
@[simp] theorem State.finish_done : (s.finish o e).done = true := rfl
@[simp] theorem State.finish_ok : (s.finish o e).ok = o := rfl
@[simp] theorem State.finish_err : (s.finish o e).err = e := rfl
@[simp] theorem State.finish_closeFail : (s.finish o e).closeFail = s.closeFail := rfl
@[simp] theorem State.finish_cmdErr : (s.finish o e).cmdErr = s.cmdErr := rfl
@[simp] theorem State.finish_lastErr : (s.finish o e).lastErr = s.lastErr := rfl
@[simp] theorem State.finish_phase : (s.finish o e).phase = .idle := rfl
@[simp] theorem State.finish_resp : (s.finish o e).resp = s.resp := rfl
@[simp] theorem State.finish_humidity : (s.finish o e).humidity = s.humidity := rfl
@[simp] theorem State.finish_temperature : (s.finish o e).temperature = s.temperature := rfl
@[simp] theorem State.finish_diE6 : (s.finish o e).diE6 = s.diE6 := rfl
@[simp] theorem State.finish_crcCalc : (s.finish o e).crcCalc = s.crcCalc := rfl
@[simp] theorem State.finish_crcRecv : (s.finish o e).crcRecv = s.crcRecv := rfl
@[simp] theorem State.finish_attempts : (s.finish o e).attempts = s.attempts := rfl
@[simp] theorem State.finish_mode : (s.finish o e).mode = s.mode := rfl
@[simp] theorem State.finish_handleOpen : (s.finish o e).handleOpen = s.handleOpen := rfl
@[simp] theorem State.finish_curErr : (s.finish o e).curErr = s.curErr := rfl
@[simp] theorem State.finish_holdUs : (s.finish o e).holdUs = s.holdUs := rfl
@[simp] theorem State.finish_outstanding : (s.finish o e).outstanding = s.outstanding := rfl
@[simp] theorem State.finish_crcAcc : (s.finish o e).crcAcc = s.crcAcc := rfl
@[simp] theorem State.finish_log : (s.finish o e).log = s.log := rfl
@[simp] theorem State.finish_reads : (s.finish o e).reads = s.reads := rfl
@[simp] theorem State.finish_params : (s.finish o e).params = s.params := rfl
@[simp] theorem State.finish_script : (s.finish o e).script = s.script := rfl
@[simp] theorem State.finish_draws : (s.finish o e).draws = s.draws := rfl

end

section
variable (m : Mode) (s : State)

@[simp] theorem State.accept_maxRetries : (s.accept m).maxRetries = s.maxRetries := rfl
@[simp] theorem State.accept_wakeDelay : (s.accept m).wakeDelay = s.wakeDelay := rfl
@[simp] theorem State.accept_writeModeDelay : (s.accept m).writeModeDelay = s.writeModeDelay := rfl
@[simp] theorem State.accept_readDelay : (s.accept m).readDelay = s.readDelay := rfl
@[simp] theorem State.accept_retryDelay : (s.accept m).retryDelay = s.retryDelay := rfl
@[simp] theorem State.accept_busy : (s.accept m).busy = true := rfl
@[simp] theorem State.accept_done : (s.accept m).done = false := rfl
@[simp] theorem State.accept_ok : (s.accept m).ok = false := rfl
@[simp] theorem State.accept_err : (s.accept m).err = .noError := rfl
@[simp] theorem State.accept_closeFail : (s.accept m).closeFail = false := rfl
@[simp] theorem State.accept_cmdErr : (s.accept m).cmdErr = false := rfl
@[simp] theorem State.accept_lastErr : (s.accept m).lastErr = .noError := rfl
@[simp] theorem State.accept_phase : (s.accept m).phase = m.firstPhase := rfl
@[simp] theorem State.accept_resp : (s.accept m).resp = s.resp := rfl
@[simp] theorem State.accept_humidity : (s.accept m).humidity = s.humidity := rfl
@[simp] theorem State.accept_temperature : (s.accept m).temperature = s.temperature := rfl
@[simp] theorem State.accept_diE6 : (s.accept m).diE6 = s.diE6 := rfl
@[simp] theorem State.accept_crcCalc : (s.accept m).crcCalc = s.crcCalc := rfl
@[simp] theorem State.accept_crcRecv : (s.accept m).crcRecv = s.crcRecv := rfl
@[simp] theorem State.accept_attempts : (s.accept m).attempts = 0 := rfl
@[simp] theorem State.accept_mode : (s.accept m).mode = m := rfl
@[simp] theorem State.accept_handleOpen : (s.accept m).handleOpen = s.handleOpen := rfl
@[simp] theorem State.accept_curErr : (s.accept m).curErr = s.curErr := rfl
@[simp] theorem State.accept_holdUs : (s.accept m).holdUs = s.holdUs := rfl
@[simp] theorem State.accept_outstanding : (s.accept m).outstanding = s.outstanding := rfl
@[simp] theorem State.accept_crcAcc : (s.accept m).crcAcc = s.crcAcc := rfl
@[simp] theorem State.accept_log : (s.accept m).log = s.log := rfl
@[simp] theorem State.accept_reads : (s.accept m).reads = s.reads := rfl
@[simp] theorem State.accept_params : (s.accept m).params = s.params := rfl
@[simp] theorem State.accept_script : (s.accept m).script = s.script := rfl
@[simp] theorem State.accept_draws : (s.accept m).draws = s.draws := rfl

end

section
variable (p : Phase) (s : State)

@[simp] theorem State.advance_maxRetries : (s.advance p).maxRetries = s.maxRetries := rfl
@[simp] theorem State.advance_wakeDelay : (s.advance p).wakeDelay = s.wakeDelay := rfl
@[simp] theorem State.advance_writeModeDelay : (s.advance p).writeModeDelay = s.writeModeDelay := rfl
@[simp] theorem State.advance_readDelay : (s.advance p).readDelay = s.readDelay := rfl
@[simp] theorem State.advance_retryDelay : (s.advance p).retryDelay = s.retryDelay := rfl
@[simp] theorem State.advance_busy : (s.advance p).busy = s.busy := rfl
@[simp] theorem State.advance_done : (s.advance p).done = s.done := rfl
@[simp] theorem State.advance_ok : (s.advance p).ok = s.ok := rfl
@[simp] theorem State.advance_err : (s.advance p).err = s.err := rfl
@[simp] theorem State.advance_closeFail : (s.advance p).closeFail = s.closeFail := rfl
@[simp] theorem State.advance_cmdErr : (s.advance p).cmdErr = s.cmdErr := rfl
@[simp] theorem State.advance_lastErr : (s.advance p).lastErr = s.lastErr := rfl
@[simp] theorem State.advance_phase : (s.advance p).phase = p := rfl
@[simp] theorem State.advance_resp : (s.advance p).resp = s.resp := rfl
@[simp] theorem State.advance_humidity : (s.advance p).humidity = s.humidity := rfl
@[simp] theorem State.advance_temperature : (s.advance p).temperature = s.temperature := rfl
@[simp] theorem State.advance_diE6 : (s.advance p).diE6 = s.diE6 := rfl
@[simp] theorem State.advance_crcCalc : (s.advance p).crcCalc = s.crcCalc := rfl
@[simp] theorem State.advance_crcRecv : (s.advance p).crcRecv = s.crcRecv := rfl
@[simp] theorem State.advance_attempts : (s.advance p).attempts = s.attempts := rfl
@[simp] theorem State.advance_mode : (s.advance p).mode = s.mode := rfl
@[simp] theorem State.advance_handleOpen : (s.advance p).handleOpen = s.handleOpen := rfl
@[simp] theorem State.advance_curErr : (s.advance p).curErr = s.curErr := rfl
@[simp] theorem State.advance_holdUs : (s.advance p).holdUs = s.holdUs := rfl
@[simp] theorem State.advance_outstanding : (s.advance p).outstanding = s.outstanding := rfl
@[simp] theorem State.advance_crcAcc : (s.advance p).crcAcc = s.crcAcc := rfl
@[simp] theorem State.advance_log : (s.advance p).log = s.log := rfl
@[simp] theorem State.advance_reads : (s.advance p).reads = s.reads := rfl
@[simp] theorem State.advance_params : (s.advance p).params = s.params := rfl
@[simp] theorem State.advance_script : (s.advance p).script = s.script := rfl
@[simp] theorem State.advance_draws : (s.advance p).draws = s.draws := rfl

end

section
variable (d : Word) (p : Phase) (s : State)

@[simp] theorem State.hold_maxRetries : (s.hold d p).maxRetries = s.maxRetries := rfl
@[simp] theorem State.hold_wakeDelay : (s.hold d p).wakeDelay = s.wakeDelay := rfl
@[simp] theorem State.hold_writeModeDelay : (s.hold d p).writeModeDelay = s.writeModeDelay := rfl
@[simp] theorem State.hold_readDelay : (s.hold d p).readDelay = s.readDelay := rfl
@[simp] theorem State.hold_retryDelay : (s.hold d p).retryDelay = s.retryDelay := rfl
@[simp] theorem State.hold_busy : (s.hold d p).busy = s.busy := rfl
@[simp] theorem State.hold_done : (s.hold d p).done = s.done := rfl
@[simp] theorem State.hold_ok : (s.hold d p).ok = s.ok := rfl
@[simp] theorem State.hold_err : (s.hold d p).err = s.err := rfl
@[simp] theorem State.hold_closeFail : (s.hold d p).closeFail = s.closeFail := rfl
@[simp] theorem State.hold_cmdErr : (s.hold d p).cmdErr = s.cmdErr := rfl
@[simp] theorem State.hold_lastErr : (s.hold d p).lastErr = s.lastErr := rfl
@[simp] theorem State.hold_phase : (s.hold d p).phase = p := rfl
@[simp] theorem State.hold_resp : (s.hold d p).resp = s.resp := rfl
@[simp] theorem State.hold_humidity : (s.hold d p).humidity = s.humidity := rfl
@[simp] theorem State.hold_temperature : (s.hold d p).temperature = s.temperature := rfl
@[simp] theorem State.hold_diE6 : (s.hold d p).diE6 = s.diE6 := rfl
@[simp] theorem State.hold_crcCalc : (s.hold d p).crcCalc = s.crcCalc := rfl
@[simp] theorem State.hold_crcRecv : (s.hold d p).crcRecv = s.crcRecv := rfl
@[simp] theorem State.hold_attempts : (s.hold d p).attempts = s.attempts := rfl
@[simp] theorem State.hold_mode : (s.hold d p).mode = s.mode := rfl
@[simp] theorem State.hold_handleOpen : (s.hold d p).handleOpen = s.handleOpen := rfl
@[simp] theorem State.hold_curErr : (s.hold d p).curErr = s.curErr := rfl
@[simp] theorem State.hold_holdUs : (s.hold d p).holdUs = d := rfl
@[simp] theorem State.hold_outstanding : (s.hold d p).outstanding = s.outstanding := rfl
@[simp] theorem State.hold_crcAcc : (s.hold d p).crcAcc = s.crcAcc := rfl
@[simp] theorem State.hold_log : (s.hold d p).log = s.log := rfl
@[simp] theorem State.hold_reads : (s.hold d p).reads = s.reads := rfl
@[simp] theorem State.hold_params : (s.hold d p).params = s.params := rfl
@[simp] theorem State.hold_script : (s.hold d p).script = s.script := rfl
@[simp] theorem State.hold_draws : (s.hold d p).draws = s.draws := rfl

end

section
variable (us : Nat) (s : State)

@[simp] theorem State.elapse_maxRetries : (s.elapse us).maxRetries = s.maxRetries := rfl
@[simp] theorem State.elapse_wakeDelay : (s.elapse us).wakeDelay = s.wakeDelay := rfl
@[simp] theorem State.elapse_writeModeDelay : (s.elapse us).writeModeDelay = s.writeModeDelay := rfl
@[simp] theorem State.elapse_readDelay : (s.elapse us).readDelay = s.readDelay := rfl
@[simp] theorem State.elapse_retryDelay : (s.elapse us).retryDelay = s.retryDelay := rfl
@[simp] theorem State.elapse_busy : (s.elapse us).busy = s.busy := rfl
@[simp] theorem State.elapse_done : (s.elapse us).done = s.done := rfl
@[simp] theorem State.elapse_ok : (s.elapse us).ok = s.ok := rfl
@[simp] theorem State.elapse_err : (s.elapse us).err = s.err := rfl
@[simp] theorem State.elapse_closeFail : (s.elapse us).closeFail = s.closeFail := rfl
@[simp] theorem State.elapse_cmdErr : (s.elapse us).cmdErr = s.cmdErr := rfl
@[simp] theorem State.elapse_lastErr : (s.elapse us).lastErr = s.lastErr := rfl
@[simp] theorem State.elapse_phase : (s.elapse us).phase = s.phase := rfl
@[simp] theorem State.elapse_resp : (s.elapse us).resp = s.resp := rfl
@[simp] theorem State.elapse_humidity : (s.elapse us).humidity = s.humidity := rfl
@[simp] theorem State.elapse_temperature : (s.elapse us).temperature = s.temperature := rfl
@[simp] theorem State.elapse_diE6 : (s.elapse us).diE6 = s.diE6 := rfl
@[simp] theorem State.elapse_crcCalc : (s.elapse us).crcCalc = s.crcCalc := rfl
@[simp] theorem State.elapse_crcRecv : (s.elapse us).crcRecv = s.crcRecv := rfl
@[simp] theorem State.elapse_attempts : (s.elapse us).attempts = s.attempts := rfl
@[simp] theorem State.elapse_mode : (s.elapse us).mode = s.mode := rfl
@[simp] theorem State.elapse_handleOpen : (s.elapse us).handleOpen = s.handleOpen := rfl
@[simp] theorem State.elapse_curErr : (s.elapse us).curErr = s.curErr := rfl
@[simp] theorem State.elapse_holdUs : (s.elapse us).holdUs = BitVec.ofNat 32 (s.holdUs.toNat - us) := rfl
@[simp] theorem State.elapse_outstanding : (s.elapse us).outstanding = s.outstanding := rfl
@[simp] theorem State.elapse_crcAcc : (s.elapse us).crcAcc = s.crcAcc := rfl
@[simp] theorem State.elapse_log : (s.elapse us).log = s.log := rfl
@[simp] theorem State.elapse_reads : (s.elapse us).reads = s.reads := rfl
@[simp] theorem State.elapse_params : (s.elapse us).params = s.params := rfl
@[simp] theorem State.elapse_script : (s.elapse us).script = s.script := rfl
@[simp] theorem State.elapse_draws : (s.elapse us).draws = s.draws := rfl

end

section
variable (ev : LogEvent) (s : State)

@[simp] theorem State.emit_maxRetries : (s.emit ev).maxRetries = s.maxRetries := rfl
@[simp] theorem State.emit_wakeDelay : (s.emit ev).wakeDelay = s.wakeDelay := rfl
@[simp] theorem State.emit_writeModeDelay : (s.emit ev).writeModeDelay = s.writeModeDelay := rfl
@[simp] theorem State.emit_readDelay : (s.emit ev).readDelay = s.readDelay := rfl
@[simp] theorem State.emit_retryDelay : (s.emit ev).retryDelay = s.retryDelay := rfl
@[simp] theorem State.emit_busy : (s.emit ev).busy = s.busy := rfl
@[simp] theorem State.emit_done : (s.emit ev).done = s.done := rfl
@[simp] theorem State.emit_ok : (s.emit ev).ok = s.ok := rfl
@[simp] theorem State.emit_err : (s.emit ev).err = s.err := rfl
@[simp] theorem State.emit_closeFail : (s.emit ev).closeFail = s.closeFail := rfl
@[simp] theorem State.emit_cmdErr : (s.emit ev).cmdErr = s.cmdErr := rfl
@[simp] theorem State.emit_lastErr : (s.emit ev).lastErr = s.lastErr := rfl
@[simp] theorem State.emit_phase : (s.emit ev).phase = s.phase := rfl
@[simp] theorem State.emit_resp : (s.emit ev).resp = s.resp := rfl
@[simp] theorem State.emit_humidity : (s.emit ev).humidity = s.humidity := rfl
@[simp] theorem State.emit_temperature : (s.emit ev).temperature = s.temperature := rfl
@[simp] theorem State.emit_diE6 : (s.emit ev).diE6 = s.diE6 := rfl
@[simp] theorem State.emit_crcCalc : (s.emit ev).crcCalc = s.crcCalc := rfl
@[simp] theorem State.emit_crcRecv : (s.emit ev).crcRecv = s.crcRecv := rfl
@[simp] theorem State.emit_attempts : (s.emit ev).attempts = s.attempts := rfl
@[simp] theorem State.emit_mode : (s.emit ev).mode = s.mode := rfl
@[simp] theorem State.emit_handleOpen : (s.emit ev).handleOpen = s.handleOpen := rfl
@[simp] theorem State.emit_curErr : (s.emit ev).curErr = s.curErr := rfl
@[simp] theorem State.emit_holdUs : (s.emit ev).holdUs = s.holdUs := rfl
@[simp] theorem State.emit_outstanding : (s.emit ev).outstanding = s.outstanding := rfl
@[simp] theorem State.emit_crcAcc : (s.emit ev).crcAcc = s.crcAcc := rfl
@[simp] theorem State.emit_log : (s.emit ev).log = s.log ++ [ev] := rfl
@[simp] theorem State.emit_reads : (s.emit ev).reads = s.reads := rfl
@[simp] theorem State.emit_params : (s.emit ev).params = s.params := rfl
@[simp] theorem State.emit_script : (s.emit ev).script = s.script := rfl
@[simp] theorem State.emit_draws : (s.emit ev).draws = s.draws := rfl

end

section
variable (e : ErrCode) (s : State)

@[simp] theorem State.raiseError_maxRetries : (s.raiseError e).maxRetries = s.maxRetries := rfl
@[simp] theorem State.raiseError_wakeDelay : (s.raiseError e).wakeDelay = s.wakeDelay := rfl
@[simp] theorem State.raiseError_writeModeDelay : (s.raiseError e).writeModeDelay = s.writeModeDelay := rfl
@[simp] theorem State.raiseError_readDelay : (s.raiseError e).readDelay = s.readDelay := rfl
@[simp] theorem State.raiseError_retryDelay : (s.raiseError e).retryDelay = s.retryDelay := rfl
@[simp] theorem State.raiseError_busy : (s.raiseError e).busy = s.busy := rfl
@[simp] theorem State.raiseError_done : (s.raiseError e).done = s.done := rfl
@[simp] theorem State.raiseError_ok : (s.raiseError e).ok = s.ok := rfl
@[simp] theorem State.raiseError_err : (s.raiseError e).err = s.err := rfl
@[simp] theorem State.raiseError_closeFail : (s.raiseError e).closeFail = s.closeFail := rfl
@[simp] theorem State.raiseError_cmdErr : (s.raiseError e).cmdErr = s.cmdErr := rfl
@[simp] theorem State.raiseError_lastErr : (s.raiseError e).lastErr = s.lastErr := rfl
@[simp] theorem State.raiseError_phase : (s.raiseError e).phase = s.phase.errorTarget := rfl
@[simp] theorem State.raiseError_resp : (s.raiseError e).resp = s.resp := rfl
@[simp] theorem State.raiseError_humidity : (s.raiseError e).humidity = s.humidity := rfl
@[simp] theorem State.raiseError_temperature : (s.raiseError e).temperature = s.temperature := rfl
@[simp] theorem State.raiseError_diE6 : (s.raiseError e).diE6 = s.diE6 := rfl
@[simp] theorem State.raiseError_crcCalc : (s.raiseError e).crcCalc = s.crcCalc := rfl
@[simp] theorem State.raiseError_crcRecv : (s.raiseError e).crcRecv = s.crcRecv := rfl
@[simp] theorem State.raiseError_attempts : (s.raiseError e).attempts = s.attempts := rfl
@[simp] theorem State.raiseError_mode : (s.raiseError e).mode = s.mode := rfl
@[simp] theorem State.raiseError_handleOpen : (s.raiseError e).handleOpen = s.handleOpen := rfl
@[simp] theorem State.raiseError_curErr : (s.raiseError e).curErr = e := rfl
@[simp] theorem State.raiseError_holdUs : (s.raiseError e).holdUs = s.holdUs := rfl
@[simp] theorem State.raiseError_outstanding : (s.raiseError e).outstanding = s.outstanding := rfl
@[simp] theorem State.raiseError_crcAcc : (s.raiseError e).crcAcc = s.crcAcc := rfl
@[simp] theorem State.raiseError_log : (s.raiseError e).log = s.log := rfl
@[simp] theorem State.raiseError_reads : (s.raiseError e).reads = s.reads := rfl
@[simp] theorem State.raiseError_params : (s.raiseError e).params = s.params := rfl
@[simp] theorem State.raiseError_script : (s.raiseError e).script = s.script := rfl
@[simp] theorem State.raiseError_draws : (s.raiseError e).draws = s.draws := rfl

end

section
variable (e : ErrCode) (s : State)

@[simp] theorem State.setCurErr_maxRetries : (s.setCurErr e).maxRetries = s.maxRetries := rfl
@[simp] theorem State.setCurErr_wakeDelay : (s.setCurErr e).wakeDelay = s.wakeDelay := rfl
@[simp] theorem State.setCurErr_writeModeDelay : (s.setCurErr e).writeModeDelay = s.writeModeDelay := rfl
@[simp] theorem State.setCurErr_readDelay : (s.setCurErr e).readDelay = s.readDelay := rfl
@[simp] theorem State.setCurErr_retryDelay : (s.setCurErr e).retryDelay = s.retryDelay := rfl
@[simp] theorem State.setCurErr_busy : (s.setCurErr e).busy = s.busy := rfl
@[simp] theorem State.setCurErr_done : (s.setCurErr e).done = s.done := rfl
@[simp] theorem State.setCurErr_ok : (s.setCurErr e).ok = s.ok := rfl
@[simp] theorem State.setCurErr_err : (s.setCurErr e).err = s.err := rfl
@[simp] theorem State.setCurErr_closeFail : (s.setCurErr e).closeFail = s.closeFail := rfl
@[simp] theorem State.setCurErr_cmdErr : (s.setCurErr e).cmdErr = s.cmdErr := rfl
@[simp] theorem State.setCurErr_lastErr : (s.setCurErr e).lastErr = s.lastErr := rfl
@[simp] theorem State.setCurErr_phase : (s.setCurErr e).phase = s.phase := rfl
@[simp] theorem State.setCurErr_resp : (s.setCurErr e).resp = s.resp := rfl
@[simp] theorem State.setCurErr_humidity : (s.setCurErr e).humidity = s.humidity := rfl
@[simp] theorem State.setCurErr_temperature : (s.setCurErr e).temperature = s.temperature := rfl
@[simp] theorem State.setCurErr_diE6 : (s.setCurErr e).diE6 = s.diE6 := rfl
@[simp] theorem State.setCurErr_crcCalc : (s.setCurErr e).crcCalc = s.crcCalc := rfl
@[simp] theorem State.setCurErr_crcRecv : (s.setCurErr e).crcRecv = s.crcRecv := rfl
@[simp] theorem State.setCurErr_attempts : (s.setCurErr e).attempts = s.attempts := rfl
@[simp] theorem State.setCurErr_mode : (s.setCurErr e).mode = s.mode := rfl
@[simp] theorem State.setCurErr_handleOpen : (s.setCurErr e).handleOpen = s.handleOpen := rfl
@[simp] theorem State.setCurErr_curErr : (s.setCurErr e).curErr = e := rfl
@[simp] theorem State.setCurErr_holdUs : (s.setCurErr e).holdUs = s.holdUs := rfl
@[simp] theorem State.setCurErr_outstanding : (s.setCurErr e).outstanding = s.outstanding := rfl
@[simp] theorem State.setCurErr_crcAcc : (s.setCurErr e).crcAcc = s.crcAcc := rfl
@[simp] theorem State.setCurErr_log : (s.setCurErr e).log = s.log := rfl
@[simp] theorem State.setCurErr_reads : (s.setCurErr e).reads = s.reads := rfl
@[simp] theorem State.setCurErr_params : (s.setCurErr e).params = s.params := rfl
@[simp] theorem State.setCurErr_script : (s.setCurErr e).script = s.script := rfl
@[simp] theorem State.setCurErr_draws : (s.setCurErr e).draws = s.draws := rfl

end

section
variable (s : State)

@[simp] theorem State.acquire_maxRetries : (s.acquire).maxRetries = s.maxRetries := rfl
@[simp] theorem State.acquire_wakeDelay : (s.acquire).wakeDelay = s.wakeDelay := rfl
@[simp] theorem State.acquire_writeModeDelay : (s.acquire).writeModeDelay = s.writeModeDelay := rfl
@[simp] theorem State.acquire_readDelay : (s.acquire).readDelay = s.readDelay := rfl
@[simp] theorem State.acquire_retryDelay : (s.acquire).retryDelay = s.retryDelay := rfl
@[simp] theorem State.acquire_busy : (s.acquire).busy = s.busy := rfl
@[simp] theorem State.acquire_done : (s.acquire).done = s.done := rfl
@[simp] theorem State.acquire_ok : (s.acquire).ok = s.ok := rfl
@[simp] theorem State.acquire_err : (s.acquire).err = s.err := rfl
@[simp] theorem State.acquire_closeFail : (s.acquire).closeFail = s.closeFail := rfl
@[simp] theorem State.acquire_cmdErr : (s.acquire).cmdErr = s.cmdErr := rfl
@[simp] theorem State.acquire_lastErr : (s.acquire).lastErr = s.lastErr := rfl
@[simp] theorem State.acquire_phase : (s.acquire).phase = .wake1 := rfl
@[simp] theorem State.acquire_resp : (s.acquire).resp = s.resp := rfl
@[simp] theorem State.acquire_humidity : (s.acquire).humidity = s.humidity := rfl
@[simp] theorem State.acquire_temperature : (s.acquire).temperature = s.temperature := rfl
@[simp] theorem State.acquire_diE6 : (s.acquire).diE6 = s.diE6 := rfl
@[simp] theorem State.acquire_crcCalc : (s.acquire).crcCalc = s.crcCalc := rfl
@[simp] theorem State.acquire_crcRecv : (s.acquire).crcRecv = s.crcRecv := rfl
@[simp] theorem State.acquire_attempts : (s.acquire).attempts = s.attempts := rfl
@[simp] theorem State.acquire_mode : (s.acquire).mode = s.mode := rfl
@[simp] theorem State.acquire_handleOpen : (s.acquire).handleOpen = true := rfl
@[simp] theorem State.acquire_curErr : (s.acquire).curErr = s.curErr := rfl
@[simp] theorem State.acquire_holdUs : (s.acquire).holdUs = s.holdUs := rfl
@[simp] theorem State.acquire_outstanding : (s.acquire).outstanding = s.outstanding := rfl
@[simp] theorem State.acquire_crcAcc : (s.acquire).crcAcc = s.crcAcc := rfl
@[simp] theorem State.acquire_log : (s.acquire).log = s.log := rfl
@[simp] theorem State.acquire_reads : (s.acquire).reads = s.reads := rfl
@[simp] theorem State.acquire_params : (s.acquire).params = s.params := rfl
@[simp] theorem State.acquire_script : (s.acquire).script = s.script := rfl
@[simp] theorem State.acquire_draws : (s.acquire).draws = s.draws := rfl

end

section
variable (r : Response) (s : State)

@[simp] theorem State.store_maxRetries : (s.store r).maxRetries = s.maxRetries := rfl
@[simp] theorem State.store_wakeDelay : (s.store r).wakeDelay = s.wakeDelay := rfl
@[simp] theorem State.store_writeModeDelay : (s.store r).writeModeDelay = s.writeModeDelay := rfl
@[simp] theorem State.store_readDelay : (s.store r).readDelay = s.readDelay := rfl
@[simp] theorem State.store_retryDelay : (s.store r).retryDelay = s.retryDelay := rfl
@[simp] theorem State.store_busy : (s.store r).busy = s.busy := rfl
@[simp] theorem State.store_done : (s.store r).done = s.done := rfl
@[simp] theorem State.store_ok : (s.store r).ok = s.ok := rfl
@[simp] theorem State.store_err : (s.store r).err = s.err := rfl
@[simp] theorem State.store_closeFail : (s.store r).closeFail = s.closeFail := rfl
@[simp] theorem State.store_cmdErr : (s.store r).cmdErr = s.cmdErr := rfl
@[simp] theorem State.store_lastErr : (s.store r).lastErr = s.lastErr := rfl
@[simp] theorem State.store_phase : (s.store r).phase = .close := rfl
@[simp] theorem State.store_resp : (s.store r).resp = r := rfl
@[simp] theorem State.store_humidity : (s.store r).humidity = s.humidity := rfl
@[simp] theorem State.store_temperature : (s.store r).temperature = s.temperature := rfl
@[simp] theorem State.store_diE6 : (s.store r).diE6 = s.diE6 := rfl
@[simp] theorem State.store_crcCalc : (s.store r).crcCalc = s.crcCalc := rfl
@[simp] theorem State.store_crcRecv : (s.store r).crcRecv = s.crcRecv := rfl
@[simp] theorem State.store_attempts : (s.store r).attempts = s.attempts := rfl
@[simp] theorem State.store_mode : (s.store r).mode = s.mode := rfl
@[simp] theorem State.store_handleOpen : (s.store r).handleOpen = s.handleOpen := rfl
@[simp] theorem State.store_curErr : (s.store r).curErr = s.curErr := rfl
@[simp] theorem State.store_holdUs : (s.store r).holdUs = s.holdUs := rfl
@[simp] theorem State.store_outstanding : (s.store r).outstanding = s.outstanding := rfl
@[simp] theorem State.store_crcAcc : (s.store r).crcAcc = s.crcAcc := rfl
@[simp] theorem State.store_log : (s.store r).log = s.log := rfl
@[simp] theorem State.store_reads : (s.store r).reads = s.reads := rfl
@[simp] theorem State.store_params : (s.store r).params = s.params := rfl
@[simp] theorem State.store_script : (s.store r).script = s.script := rfl
@[simp] theorem State.store_draws : (s.store r).draws = s.draws := rfl

end

section
variable (q : Request) (s : State)

@[simp] theorem State.issue_maxRetries : (s.issue q).maxRetries = s.maxRetries := rfl
@[simp] theorem State.issue_wakeDelay : (s.issue q).wakeDelay = s.wakeDelay := rfl
@[simp] theorem State.issue_writeModeDelay : (s.issue q).writeModeDelay = s.writeModeDelay := rfl
@[simp] theorem State.issue_readDelay : (s.issue q).readDelay = s.readDelay := rfl
@[simp] theorem State.issue_retryDelay : (s.issue q).retryDelay = s.retryDelay := rfl
@[simp] theorem State.issue_busy : (s.issue q).busy = s.busy := rfl
@[simp] theorem State.issue_done : (s.issue q).done = s.done := rfl
@[simp] theorem State.issue_ok : (s.issue q).ok = s.ok := rfl
@[simp] theorem State.issue_err : (s.issue q).err = s.err := rfl
@[simp] theorem State.issue_closeFail : (s.issue q).closeFail = s.closeFail := rfl
@[simp] theorem State.issue_cmdErr : (s.issue q).cmdErr = s.cmdErr := rfl
@[simp] theorem State.issue_lastErr : (s.issue q).lastErr = s.lastErr := rfl
@[simp] theorem State.issue_phase : (s.issue q).phase = s.phase := rfl
@[simp] theorem State.issue_resp : (s.issue q).resp = s.resp := rfl
@[simp] theorem State.issue_humidity : (s.issue q).humidity = s.humidity := rfl
@[simp] theorem State.issue_temperature : (s.issue q).temperature = s.temperature := rfl
@[simp] theorem State.issue_diE6 : (s.issue q).diE6 = s.diE6 := rfl
@[simp] theorem State.issue_crcCalc : (s.issue q).crcCalc = s.crcCalc := rfl
@[simp] theorem State.issue_crcRecv : (s.issue q).crcRecv = s.crcRecv := rfl
@[simp] theorem State.issue_attempts : (s.issue q).attempts = s.attempts := rfl
@[simp] theorem State.issue_mode : (s.issue q).mode = s.mode := rfl
@[simp] theorem State.issue_handleOpen : (s.issue q).handleOpen = s.handleOpen := rfl
@[simp] theorem State.issue_curErr : (s.issue q).curErr = s.curErr := rfl
@[simp] theorem State.issue_holdUs : (s.issue q).holdUs = s.holdUs := rfl
@[simp] theorem State.issue_outstanding : (s.issue q).outstanding = some ⟨q, none⟩ := rfl
@[simp] theorem State.issue_crcAcc : (s.issue q).crcAcc = s.crcAcc := rfl
@[simp] theorem State.issue_log : (s.issue q).log = s.log := rfl
@[simp] theorem State.issue_reads : (s.issue q).reads = s.reads := rfl
@[simp] theorem State.issue_params : (s.issue q).params = s.params := rfl
@[simp] theorem State.issue_script : (s.issue q).script = s.script := rfl
@[simp] theorem State.issue_draws : (s.issue q).draws = s.draws := rfl

end

section
variable (s : State)

@[simp] theorem State.consume_maxRetries : (s.consume).maxRetries = s.maxRetries := rfl
@[simp] theorem State.consume_wakeDelay : (s.consume).wakeDelay = s.wakeDelay := rfl
@[simp] theorem State.consume_writeModeDelay : (s.consume).writeModeDelay = s.writeModeDelay := rfl
@[simp] theorem State.consume_readDelay : (s.consume).readDelay = s.readDelay := rfl
@[simp] theorem State.consume_retryDelay : (s.consume).retryDelay = s.retryDelay := rfl
@[simp] theorem State.consume_busy : (s.consume).busy = s.busy := rfl
@[simp] theorem State.consume_done : (s.consume).done = s.done := rfl
@[simp] theorem State.consume_ok : (s.consume).ok = s.ok := rfl
@[simp] theorem State.consume_err : (s.consume).err = s.err := rfl
@[simp] theorem State.consume_closeFail : (s.consume).closeFail = s.closeFail := rfl
@[simp] theorem State.consume_cmdErr : (s.consume).cmdErr = s.cmdErr := rfl
@[simp] theorem State.consume_lastErr : (s.consume).lastErr = s.lastErr := rfl
@[simp] theorem State.consume_phase : (s.consume).phase = s.phase := rfl
@[simp] theorem State.consume_resp : (s.consume).resp = s.resp := rfl
@[simp] theorem State.consume_humidity : (s.consume).humidity = s.humidity := rfl
@[simp] theorem State.consume_temperature : (s.consume).temperature = s.temperature := rfl
@[simp] theorem State.consume_diE6 : (s.consume).diE6 = s.diE6 := rfl
@[simp] theorem State.consume_crcCalc : (s.consume).crcCalc = s.crcCalc := rfl
@[simp] theorem State.consume_crcRecv : (s.consume).crcRecv = s.crcRecv := rfl
@[simp] theorem State.consume_attempts : (s.consume).attempts = s.attempts := rfl
@[simp] theorem State.consume_mode : (s.consume).mode = s.mode := rfl
@[simp] theorem State.consume_handleOpen : (s.consume).handleOpen = s.handleOpen := rfl
@[simp] theorem State.consume_curErr : (s.consume).curErr = s.curErr := rfl
@[simp] theorem State.consume_holdUs : (s.consume).holdUs = s.holdUs := rfl
@[simp] theorem State.consume_outstanding : (s.consume).outstanding = none := rfl
@[simp] theorem State.consume_crcAcc : (s.consume).crcAcc = s.crcAcc := rfl
@[simp] theorem State.consume_log : (s.consume).log = s.log := rfl
@[simp] theorem State.consume_reads : (s.consume).reads = s.reads := rfl
@[simp] theorem State.consume_params : (s.consume).params = s.params := rfl
@[simp] theorem State.consume_script : (s.consume).script = s.script := rfl
@[simp] theorem State.consume_draws : (s.consume).draws = s.draws := rfl

end

section
variable (s : State)

@[simp] theorem State.accumulate_maxRetries : (s.accumulate).maxRetries = s.maxRetries := rfl
@[simp] theorem State.accumulate_wakeDelay : (s.accumulate).wakeDelay = s.wakeDelay := rfl
@[simp] theorem State.accumulate_writeModeDelay : (s.accumulate).writeModeDelay = s.writeModeDelay := rfl
@[simp] theorem State.accumulate_readDelay : (s.accumulate).readDelay = s.readDelay := rfl
@[simp] theorem State.accumulate_retryDelay : (s.accumulate).retryDelay = s.retryDelay := rfl
@[simp] theorem State.accumulate_busy : (s.accumulate).busy = s.busy := rfl
@[simp] theorem State.accumulate_done : (s.accumulate).done = s.done := rfl
@[simp] theorem State.accumulate_ok : (s.accumulate).ok = s.ok := rfl
@[simp] theorem State.accumulate_err : (s.accumulate).err = s.err := rfl
@[simp] theorem State.accumulate_closeFail : (s.accumulate).closeFail = s.closeFail := rfl
@[simp] theorem State.accumulate_cmdErr : (s.accumulate).cmdErr = s.cmdErr := rfl
@[simp] theorem State.accumulate_lastErr : (s.accumulate).lastErr = s.lastErr := rfl
@[simp] theorem State.accumulate_phase : (s.accumulate).phase = s.phase := rfl
@[simp] theorem State.accumulate_resp : (s.accumulate).resp = s.resp := rfl
@[simp] theorem State.accumulate_humidity : (s.accumulate).humidity = s.humidity := rfl
@[simp] theorem State.accumulate_temperature : (s.accumulate).temperature = s.temperature := rfl
@[simp] theorem State.accumulate_diE6 : (s.accumulate).diE6 = s.diE6 := rfl
@[simp] theorem State.accumulate_crcCalc : (s.accumulate).crcCalc = s.crcCalc := rfl
@[simp] theorem State.accumulate_crcRecv : (s.accumulate).crcRecv = s.crcRecv := rfl
@[simp] theorem State.accumulate_attempts : (s.accumulate).attempts = s.attempts := rfl
@[simp] theorem State.accumulate_mode : (s.accumulate).mode = s.mode := rfl
@[simp] theorem State.accumulate_handleOpen : (s.accumulate).handleOpen = s.handleOpen := rfl
@[simp] theorem State.accumulate_curErr : (s.accumulate).curErr = s.curErr := rfl
@[simp] theorem State.accumulate_holdUs : (s.accumulate).holdUs = s.holdUs := rfl
@[simp] theorem State.accumulate_outstanding : (s.accumulate).outstanding = s.outstanding := rfl
@[simp] theorem State.accumulate_crcAcc : (s.accumulate).crcAcc = crcCompute s.resp := rfl
@[simp] theorem State.accumulate_log : (s.accumulate).log = s.log := rfl
@[simp] theorem State.accumulate_reads : (s.accumulate).reads = s.reads := rfl
@[simp] theorem State.accumulate_params : (s.accumulate).params = s.params := rfl
@[simp] theorem State.accumulate_script : (s.accumulate).script = s.script := rfl
@[simp] theorem State.accumulate_draws : (s.accumulate).draws = s.draws := rfl

end

section
variable (s : State)

@[simp] theorem State.writeCrc_maxRetries : (s.writeCrc).maxRetries = s.maxRetries := rfl
@[simp] theorem State.writeCrc_wakeDelay : (s.writeCrc).wakeDelay = s.wakeDelay := rfl
@[simp] theorem State.writeCrc_writeModeDelay : (s.writeCrc).writeModeDelay = s.writeModeDelay := rfl
@[simp] theorem State.writeCrc_readDelay : (s.writeCrc).readDelay = s.readDelay := rfl
@[simp] theorem State.writeCrc_retryDelay : (s.writeCrc).retryDelay = s.retryDelay := rfl
@[simp] theorem State.writeCrc_busy : (s.writeCrc).busy = s.busy := rfl
@[simp] theorem State.writeCrc_done : (s.writeCrc).done = s.done := rfl
@[simp] theorem State.writeCrc_ok : (s.writeCrc).ok = s.ok := rfl
@[simp] theorem State.writeCrc_err : (s.writeCrc).err = s.err := rfl
@[simp] theorem State.writeCrc_closeFail : (s.writeCrc).closeFail = s.closeFail := rfl
@[simp] theorem State.writeCrc_cmdErr : (s.writeCrc).cmdErr = s.cmdErr := rfl
@[simp] theorem State.writeCrc_lastErr : (s.writeCrc).lastErr = s.lastErr := rfl
@[simp] theorem State.writeCrc_phase : (s.writeCrc).phase = s.phase := rfl
@[simp] theorem State.writeCrc_resp : (s.writeCrc).resp = s.resp := rfl
@[simp] theorem State.writeCrc_humidity : (s.writeCrc).humidity = s.humidity := rfl
@[simp] theorem State.writeCrc_temperature : (s.writeCrc).temperature = s.temperature := rfl
@[simp] theorem State.writeCrc_diE6 : (s.writeCrc).diE6 = s.diE6 := rfl
@[simp] theorem State.writeCrc_crcCalc : (s.writeCrc).crcCalc = crcCompute s.resp := rfl
@[simp] theorem State.writeCrc_crcRecv : (s.writeCrc).crcRecv = s.resp.trailer := rfl
@[simp] theorem State.writeCrc_attempts : (s.writeCrc).attempts = s.attempts := rfl
@[simp] theorem State.writeCrc_mode : (s.writeCrc).mode = s.mode := rfl
@[simp] theorem State.writeCrc_handleOpen : (s.writeCrc).handleOpen = s.handleOpen := rfl
@[simp] theorem State.writeCrc_curErr : (s.writeCrc).curErr = s.curErr := rfl
@[simp] theorem State.writeCrc_holdUs : (s.writeCrc).holdUs = s.holdUs := rfl
@[simp] theorem State.writeCrc_outstanding : (s.writeCrc).outstanding = s.outstanding := rfl
@[simp] theorem State.writeCrc_crcAcc : (s.writeCrc).crcAcc = (Config.draw s.draws).extractLsb' 0 16 := rfl
@[simp] theorem State.writeCrc_log : (s.writeCrc).log = s.log := rfl
@[simp] theorem State.writeCrc_reads : (s.writeCrc).reads = s.reads := rfl
@[simp] theorem State.writeCrc_params : (s.writeCrc).params = s.params := rfl
@[simp] theorem State.writeCrc_script : (s.writeCrc).script = s.script := rfl
@[simp] theorem State.writeCrc_draws : (s.writeCrc).draws = s.draws + 1 := rfl

end

section
variable (s : State)

@[simp] theorem State.decodeResult_maxRetries : (s.decodeResult).maxRetries = s.maxRetries := rfl
@[simp] theorem State.decodeResult_wakeDelay : (s.decodeResult).wakeDelay = s.wakeDelay := rfl
@[simp] theorem State.decodeResult_writeModeDelay : (s.decodeResult).writeModeDelay = s.writeModeDelay := rfl
@[simp] theorem State.decodeResult_readDelay : (s.decodeResult).readDelay = s.readDelay := rfl
@[simp] theorem State.decodeResult_retryDelay : (s.decodeResult).retryDelay = s.retryDelay := rfl
@[simp] theorem State.decodeResult_busy : (s.decodeResult).busy = s.busy := rfl
@[simp] theorem State.decodeResult_done : (s.decodeResult).done = s.done := rfl
@[simp] theorem State.decodeResult_ok : (s.decodeResult).ok = s.ok := rfl
@[simp] theorem State.decodeResult_err : (s.decodeResult).err = s.err := rfl
@[simp] theorem State.decodeResult_closeFail : (s.decodeResult).closeFail = s.closeFail := rfl
@[simp] theorem State.decodeResult_cmdErr : (s.decodeResult).cmdErr = s.cmdErr := rfl
@[simp] theorem State.decodeResult_lastErr : (s.decodeResult).lastErr = s.lastErr := rfl
@[simp] theorem State.decodeResult_phase : (s.decodeResult).phase = s.phase := rfl
@[simp] theorem State.decodeResult_resp : (s.decodeResult).resp = s.resp := rfl
@[simp] theorem State.decodeResult_humidity : (s.decodeResult).humidity = s.resp.humRaw := rfl
@[simp] theorem State.decodeResult_temperature : (s.decodeResult).temperature = BitVec.ofInt 32 (temperatureTenths s.params.tempEncoding s.resp.tempRaw) := rfl
@[simp] theorem State.decodeResult_diE6 : (s.decodeResult).diE6 = BitVec.ofInt 64 (discomfort (temperatureTenths s.params.tempEncoding s.resp.tempRaw) (s.resp.humRaw.toNat : Int)) := rfl
@[simp] theorem State.decodeResult_crcCalc : (s.decodeResult).crcCalc = s.crcCalc := rfl
@[simp] theorem State.decodeResult_crcRecv : (s.decodeResult).crcRecv = s.crcRecv := rfl
@[simp] theorem State.decodeResult_attempts : (s.decodeResult).attempts = s.attempts := rfl
@[simp] theorem State.decodeResult_mode : (s.decodeResult).mode = s.mode := rfl
@[simp] theorem State.decodeResult_handleOpen : (s.decodeResult).handleOpen = s.handleOpen := rfl
@[simp] theorem State.decodeResult_curErr : (s.decodeResult).curErr = s.curErr := rfl
@[simp] theorem State.decodeResult_holdUs : (s.decodeResult).holdUs = s.holdUs := rfl
@[simp] theorem State.decodeResult_outstanding : (s.decodeResult).outstanding = s.outstanding := rfl
@[simp] theorem State.decodeResult_crcAcc : (s.decodeResult).crcAcc = s.crcAcc := rfl
@[simp] theorem State.decodeResult_log : (s.decodeResult).log = s.log := rfl
@[simp] theorem State.decodeResult_reads : (s.decodeResult).reads = s.reads := rfl
@[simp] theorem State.decodeResult_params : (s.decodeResult).params = s.params := rfl
@[simp] theorem State.decodeResult_script : (s.decodeResult).script = s.script := rfl
@[simp] theorem State.decodeResult_draws : (s.decodeResult).draws = s.draws := rfl

end

section
variable (s : State)

@[simp] theorem State.reportFailure_maxRetries : (s.reportFailure).maxRetries = s.maxRetries := rfl
@[simp] theorem State.reportFailure_wakeDelay : (s.reportFailure).wakeDelay = s.wakeDelay := rfl
@[simp] theorem State.reportFailure_writeModeDelay : (s.reportFailure).writeModeDelay = s.writeModeDelay := rfl
@[simp] theorem State.reportFailure_readDelay : (s.reportFailure).readDelay = s.readDelay := rfl
@[simp] theorem State.reportFailure_retryDelay : (s.reportFailure).retryDelay = s.retryDelay := rfl
@[simp] theorem State.reportFailure_busy : (s.reportFailure).busy = s.busy := rfl
@[simp] theorem State.reportFailure_done : (s.reportFailure).done = s.done := rfl
@[simp] theorem State.reportFailure_ok : (s.reportFailure).ok = s.ok := rfl
@[simp] theorem State.reportFailure_err : (s.reportFailure).err = s.err := rfl
@[simp] theorem State.reportFailure_closeFail : (s.reportFailure).closeFail = s.closeFail := rfl
@[simp] theorem State.reportFailure_cmdErr : (s.reportFailure).cmdErr = s.cmdErr := rfl
@[simp] theorem State.reportFailure_lastErr : (s.reportFailure).lastErr = s.curErr := rfl
@[simp] theorem State.reportFailure_phase : (s.reportFailure).phase = s.phase := rfl
@[simp] theorem State.reportFailure_resp : (s.reportFailure).resp = s.resp := rfl
@[simp] theorem State.reportFailure_humidity : (s.reportFailure).humidity = s.humidity := rfl
@[simp] theorem State.reportFailure_temperature : (s.reportFailure).temperature = s.temperature := rfl
@[simp] theorem State.reportFailure_diE6 : (s.reportFailure).diE6 = s.diE6 := rfl
@[simp] theorem State.reportFailure_crcCalc : (s.reportFailure).crcCalc = s.crcCalc := rfl
@[simp] theorem State.reportFailure_crcRecv : (s.reportFailure).crcRecv = s.crcRecv := rfl
@[simp] theorem State.reportFailure_attempts : (s.reportFailure).attempts = s.attempts := rfl
@[simp] theorem State.reportFailure_mode : (s.reportFailure).mode = s.mode := rfl
@[simp] theorem State.reportFailure_handleOpen : (s.reportFailure).handleOpen = s.handleOpen := rfl
@[simp] theorem State.reportFailure_curErr : (s.reportFailure).curErr = s.curErr := rfl
@[simp] theorem State.reportFailure_holdUs : (s.reportFailure).holdUs = s.holdUs := rfl
@[simp] theorem State.reportFailure_outstanding : (s.reportFailure).outstanding = s.outstanding := rfl
@[simp] theorem State.reportFailure_crcAcc : (s.reportFailure).crcAcc = s.crcAcc := rfl
@[simp] theorem State.reportFailure_log : (s.reportFailure).log = s.log ++ [.attemptFailed s.attempts s.curErr] := rfl
@[simp] theorem State.reportFailure_reads : (s.reportFailure).reads = s.reads := rfl
@[simp] theorem State.reportFailure_params : (s.reportFailure).params = s.params := rfl
@[simp] theorem State.reportFailure_script : (s.reportFailure).script = s.script := rfl
@[simp] theorem State.reportFailure_draws : (s.reportFailure).draws = s.draws := rfl

end

section
variable (s : State)

@[simp] theorem State.beginAttempt_maxRetries : (s.beginAttempt).maxRetries = s.maxRetries := rfl
@[simp] theorem State.beginAttempt_wakeDelay : (s.beginAttempt).wakeDelay = s.wakeDelay := rfl
@[simp] theorem State.beginAttempt_writeModeDelay : (s.beginAttempt).writeModeDelay = s.writeModeDelay := rfl
@[simp] theorem State.beginAttempt_readDelay : (s.beginAttempt).readDelay = s.readDelay := rfl
@[simp] theorem State.beginAttempt_retryDelay : (s.beginAttempt).retryDelay = s.retryDelay := rfl
@[simp] theorem State.beginAttempt_busy : (s.beginAttempt).busy = s.busy := rfl
@[simp] theorem State.beginAttempt_done : (s.beginAttempt).done = s.done := rfl
@[simp] theorem State.beginAttempt_ok : (s.beginAttempt).ok = s.ok := rfl
@[simp] theorem State.beginAttempt_err : (s.beginAttempt).err = s.err := rfl
@[simp] theorem State.beginAttempt_closeFail : (s.beginAttempt).closeFail = s.closeFail := rfl
@[simp] theorem State.beginAttempt_cmdErr : (s.beginAttempt).cmdErr = s.cmdErr := rfl
@[simp] theorem State.beginAttempt_lastErr : (s.beginAttempt).lastErr = s.lastErr := rfl
@[simp] theorem State.beginAttempt_phase : (s.beginAttempt).phase = s.phase := rfl
@[simp] theorem State.beginAttempt_resp : (s.beginAttempt).resp = s.resp := rfl
@[simp] theorem State.beginAttempt_humidity : (s.beginAttempt).humidity = s.humidity := rfl
@[simp] theorem State.beginAttempt_temperature : (s.beginAttempt).temperature = s.temperature := rfl
@[simp] theorem State.beginAttempt_diE6 : (s.beginAttempt).diE6 = s.diE6 := rfl
@[simp] theorem State.beginAttempt_crcCalc : (s.beginAttempt).crcCalc = s.crcCalc := rfl
@[simp] theorem State.beginAttempt_crcRecv : (s.beginAttempt).crcRecv = s.crcRecv := rfl
@[simp] theorem State.beginAttempt_attempts : (s.beginAttempt).attempts = s.attempts + 1 := rfl
@[simp] theorem State.beginAttempt_mode : (s.beginAttempt).mode = s.mode := rfl
@[simp] theorem State.beginAttempt_handleOpen : (s.beginAttempt).handleOpen = s.handleOpen := rfl
@[simp] theorem State.beginAttempt_curErr : (s.beginAttempt).curErr = .noError := rfl
@[simp] theorem State.beginAttempt_holdUs : (s.beginAttempt).holdUs = s.holdUs := rfl
@[simp] theorem State.beginAttempt_outstanding : (s.beginAttempt).outstanding = some ⟨openRequest s.params, none⟩ := rfl
@[simp] theorem State.beginAttempt_crcAcc : (s.beginAttempt).crcAcc = s.crcAcc := rfl
@[simp] theorem State.beginAttempt_log : (s.beginAttempt).log = s.log := rfl
@[simp] theorem State.beginAttempt_reads : (s.beginAttempt).reads = s.reads := rfl
@[simp] theorem State.beginAttempt_params : (s.beginAttempt).params = s.params := rfl
@[simp] theorem State.beginAttempt_script : (s.beginAttempt).script = s.script := rfl
@[simp] theorem State.beginAttempt_draws : (s.beginAttempt).draws = s.draws := rfl

end

section
variable (s : State)

@[simp] theorem State.release_maxRetries : (s.release).maxRetries = s.maxRetries := rfl
@[simp] theorem State.release_wakeDelay : (s.release).wakeDelay = s.wakeDelay := rfl
@[simp] theorem State.release_writeModeDelay : (s.release).writeModeDelay = s.writeModeDelay := rfl
@[simp] theorem State.release_readDelay : (s.release).readDelay = s.readDelay := rfl
@[simp] theorem State.release_retryDelay : (s.release).retryDelay = s.retryDelay := rfl
@[simp] theorem State.release_busy : (s.release).busy = s.busy := rfl
@[simp] theorem State.release_done : (s.release).done = s.done := rfl
@[simp] theorem State.release_ok : (s.release).ok = s.ok := rfl
@[simp] theorem State.release_err : (s.release).err = s.err := rfl
@[simp] theorem State.release_closeFail : (s.release).closeFail = s.closeFail := rfl
@[simp] theorem State.release_cmdErr : (s.release).cmdErr = s.cmdErr := rfl
@[simp] theorem State.release_lastErr : (s.release).lastErr = s.lastErr := rfl
@[simp] theorem State.release_phase : (s.release).phase = s.curErr.afterClose := rfl
@[simp] theorem State.release_resp : (s.release).resp = s.resp := rfl
@[simp] theorem State.release_humidity : (s.release).humidity = s.humidity := rfl
@[simp] theorem State.release_temperature : (s.release).temperature = s.temperature := rfl
@[simp] theorem State.release_diE6 : (s.release).diE6 = s.diE6 := rfl
@[simp] theorem State.release_crcCalc : (s.release).crcCalc = s.crcCalc := rfl
@[simp] theorem State.release_crcRecv : (s.release).crcRecv = s.crcRecv := rfl
@[simp] theorem State.release_attempts : (s.release).attempts = s.attempts := rfl
@[simp] theorem State.release_mode : (s.release).mode = s.mode := rfl
@[simp] theorem State.release_handleOpen : (s.release).handleOpen = false := rfl
@[simp] theorem State.release_curErr : (s.release).curErr = s.curErr := rfl
@[simp] theorem State.release_holdUs : (s.release).holdUs = s.holdUs := rfl
@[simp] theorem State.release_outstanding : (s.release).outstanding = s.outstanding := rfl
@[simp] theorem State.release_crcAcc : (s.release).crcAcc = s.crcAcc := rfl
@[simp] theorem State.release_log : (s.release).log = s.log := rfl
@[simp] theorem State.release_reads : (s.release).reads = s.reads := rfl
@[simp] theorem State.release_params : (s.release).params = s.params := rfl
@[simp] theorem State.release_script : (s.release).script = s.script := rfl
@[simp] theorem State.release_draws : (s.release).draws = s.draws := rfl

end

section
variable (s : State)

@[simp] theorem State.resetBlock_maxRetries : s.resetBlock.maxRetries = 5 := rfl
@[simp] theorem State.resetBlock_wakeDelay : s.resetBlock.wakeDelay = 800 := rfl
@[simp] theorem State.resetBlock_writeModeDelay : s.resetBlock.writeModeDelay = 1500 := rfl
@[simp] theorem State.resetBlock_readDelay : s.resetBlock.readDelay = 30 := rfl
@[simp] theorem State.resetBlock_retryDelay : s.resetBlock.retryDelay = 300000 := rfl
@[simp] theorem State.resetBlock_busy : s.resetBlock.busy = false := rfl
@[simp] theorem State.resetBlock_done : s.resetBlock.done = false := rfl
@[simp] theorem State.resetBlock_ok : s.resetBlock.ok = false := rfl
@[simp] theorem State.resetBlock_err : s.resetBlock.err = .noError := rfl
@[simp] theorem State.resetBlock_closeFail : s.resetBlock.closeFail = false := rfl
@[simp] theorem State.resetBlock_cmdErr : s.resetBlock.cmdErr = false := rfl
@[simp] theorem State.resetBlock_lastErr : s.resetBlock.lastErr = .noError := rfl
@[simp] theorem State.resetBlock_phase : s.resetBlock.phase = .idle := rfl
@[simp] theorem State.resetBlock_attempts : s.resetBlock.attempts = 0 := rfl
@[simp] theorem State.resetBlock_mode : s.resetBlock.mode = .single := rfl
@[simp] theorem State.resetBlock_handleOpen : s.resetBlock.handleOpen = false := rfl
@[simp] theorem State.resetBlock_curErr : s.resetBlock.curErr = .noError := rfl
@[simp] theorem State.resetBlock_holdUs : s.resetBlock.holdUs = 0 := rfl
@[simp] theorem State.resetBlock_outstanding : s.resetBlock.outstanding = none := rfl
@[simp] theorem State.resetBlock_log : s.resetBlock.log = s.log := rfl
@[simp] theorem State.resetBlock_reads : s.resetBlock.reads = s.reads := rfl
@[simp] theorem State.resetBlock_params : s.resetBlock.params = s.params := rfl
@[simp] theorem State.resetBlock_script : s.resetBlock.script = s.script := rfl
@[simp] theorem State.resetBlock_draws : s.resetBlock.draws = s.draws + 8 := rfl

end

end Sys2Proof.Machine
end

