-- ==== Sys2Proof/Laws/Ops.lean ====
section
/-!
SUPPORT. What each shared operation can do, said once: the host's turned-away write, the transaction port, delivery, the
delay phases, ATTEMPT_END, and the step. Proofs cite these instead of unfolding the operations.
-/

namespace Sys2Proof.Machine

variable {s t : State}

/-! ### Host writes -/

theorem State.whenIdle_of_idle (f : State → State) (h : s.busy = false) : s.whenIdle f = f s := by
  simp [State.whenIdle, h]

theorem State.whenIdle_of_busy (f : State → State) (h : s.busy = true) : s.whenIdle f = s.setCmdErr := by
  simp [State.whenIdle, h]

/-- A host access is undefined exactly where the window has no register. -/
theorem regAt_isSome_iff (off : Nat) : (regAt off).isSome = (offsetAligned off && offsetInWindow off) := by
  by_cases h : off < 0x40
  · have H : ∀ k : Fin 0x40, (regAt k).isSome = (offsetAligned k && offsetInWindow k) := by decide
    exact H ⟨off, h⟩
  · have hn : regAt off = none := by
      unfold regAt
      split <;> first | omega | rfl
    simp [hn, offsetInWindow, h]

theorem regAt_eq_none_iff (off : Nat) : regAt off = none ↔ off % 4 ≠ 0 ∨ 0x40 ≤ off := by
  have h := regAt_isSome_iff off
  rw [← Option.isNone_iff_eq_none, ← Option.not_isSome]
  simp only [h, offsetAligned, offsetInWindow]
  by_cases h1 : off % 4 = 0 <;> by_cases h2 : off < 0x40 <;> simp [h1, h2]; omega

/-! ### The transaction port -/

section
variable {here : Bool} {issueStep : State → State} {completion : Answer → State → Result}

theorem transact_elsewhere (h : here = false) :
    transact here issueStep completion s = .fault .busOutOfPhase := by
  simp [transact, h]

theorem transact_issue (h : here = true) (ho : s.outstanding = none) :
    transact here issueStep completion s = .next (issueStep s) := by
  simp [transact, h, ho]

theorem transact_wait {q : Request} (h : here = true) (ho : s.outstanding = some ⟨q, none⟩) :
    transact here issueStep completion s = .next s := by
  simp [transact, h, ho]

theorem transact_complete {q : Request} {a : Answer} (h : here = true)
    (ho : s.outstanding = some ⟨q, some a⟩) :
    transact here issueStep completion s = completion a s.consume := by
  simp [transact, h, ho]

/-- Everything a transaction's step can do when it answers a next state. -/
theorem transact_next (h : transact here issueStep completion s = .next t) :
    here = true ∧
      ((s.outstanding = none ∧ t = issueStep s) ∨
       (∃ q, s.outstanding = some ⟨q, none⟩ ∧ t = s) ∨
       (∃ q a, s.outstanding = some ⟨q, some a⟩ ∧ completion a s.consume = .next t)) := by
  unfold transact at h
  split at h
  · refine ⟨‹_›, ?_⟩
    split at h
    · exact .inl ⟨‹_›, by cases h; rfl⟩
    · exact .inr (.inl ⟨_, ‹_›, by cases h; rfl⟩)
    · exact .inr (.inr ⟨_, _, ‹_›, h⟩)
  · cases h
end

/-- Everything the completion of a write can do. -/
theorem completeWrite_next {e : ErrCode} {d : Word} {p : Phase} {a : Answer}
    (h : completeWrite e d p a s = .next t) :
    (a = .ok ∧ t = s.hold d p) ∨ (a = .err ∧ t = s.raiseError e) := by
  cases a <;> simp [completeWrite] at h <;> simp [h]

theorem completeOpen_next {a : Answer} (h : completeOpen a s = .next t) :
    (a = .ok ∧ t = s.acquire) ∨
      (a = .err ∧ t = s.raiseError .transportError) := by
  cases a <;> simp [completeOpen] at h <;> simp [h]

theorem completeRead_next {a : Answer} (h : completeRead a s = .next t) :
    (∃ bs r, a = .okBytes bs ∧ Response.ofBytes bs = some r ∧ t = s.store r) ∨
      t = s.raiseError .readError := by
  cases a with
  | ok => simp [completeRead] at h
  | err => simp [completeRead] at h; exact .inr h.symm
  | okBytes bs =>
    simp only [completeRead] at h
    split at h
    · exact .inl ⟨bs, _, rfl, ‹_›, by cases h; rfl⟩
    · exact .inr (by cases h; rfl)

theorem completeClose_next {a : Answer} (h : completeClose a s = .next t) :
    (a = .ok ∧ t = s.release) ∨
      (a = .err ∧ t = (s.setCloseFail.emit (.closeFailed s.attempts)).release) := by
  cases a <;> simp [completeClose] at h <;> simp [h]

/-- Everything a delivery can do. -/
theorem State.deliver_next {a : Answer} (h : s.deliver a = .next t) :
    ∃ q, s.outstanding = some ⟨q, none⟩ ∧ answerFits q a = true ∧ t = { s with outstanding := some ⟨q, some a⟩ } := by
  unfold State.deliver at h
  split at h
  · split at h
    · exact ⟨_, ‹_›, ‹_›, by cases h; rfl⟩
    · cases h
  · cases h

/-! ### Delays, VALIDATE, ATTEMPT_END -/

theorem State.leaveDelay_over (f : State → State) (h : s.holdUs = 0) : s.leaveDelay f = f s := by
  simp [State.leaveDelay, h]

theorem State.leaveDelay_holding (f : State → State) (h : s.holdUs ≠ 0) : s.leaveDelay f = s := if_neg h

theorem crcValid_iff (r : Response) : crcValid r = true ↔ r.trailer = crcCompute r := by simp [crcValid]

/-- The three outcomes of the checks (R166). -/
theorem State.runChecks_cases (s : State) :
    (crcValid s.resp = false ∧ s.runChecks = s.writeCrc.setCurErr .validationError) ∨
    (crcValid s.resp = true ∧ errorFlag s.params.errOffset s.resp = true ∧
      s.runChecks = s.writeCrc.setCurErr .sensorReportedError) ∨
    (crcValid s.resp = true ∧ errorFlag s.params.errOffset s.resp = false ∧
      s.runChecks = s.writeCrc.decodeResult.setCurErr .noError) := by
  unfold State.runChecks checkOutcome
  cases h1 : crcValid s.resp <;> cases h2 : errorFlag s.params.errOffset s.resp <;> simp

/-- Everything the end of an attempt can do when it answers a next state. -/
theorem attemptEnd_next (h : attemptEnd s = .next t) :
    s.mode ≠ .check ∧
      ((s.curErr = .noError ∧ t = s.finish true .noError) ∨
       (s.curErr ≠ .noError ∧ s.mode = .single ∧ t = s.reportFailure.finish false s.curErr) ∨
       (s.curErr ≠ .noError ∧ s.mode = .retry ∧ t = s.endRetry)) := by
  unfold attemptEnd at h
  split at h <;> first | (cases h; done) | (cases h; simp_all)

/-- The two ends of a failed attempt in mode RETRY (R183). -/
theorem State.endRetry_cases (s : State) :
    (s.maxRetries.toNat < s.attempts.toNat ∧ s.endRetry = s.reportFailure.finish false .retriesExhausted) ∨
    (s.attempts.toNat ≤ s.maxRetries.toNat ∧ s.endRetry = s.reportFailure.hold s.retryDelay .retryWait) := by
  by_cases h : s.maxRetries.toNat < s.attempts.toNat
  · exact .inl ⟨h, by simp [State.endRetry, State.boundExceeded, h]⟩
  · exact .inr ⟨Nat.le_of_not_lt h, by simp [State.endRetry, State.boundExceeded, h]⟩

end Sys2Proof.Machine
end

