-- ==== Sys2Proof/Laws/PerInstr.lean ====
section
/-!
SUPPORT. The family TableRow: every instruction's encoding is of the form its row of spec/opcode_table.json gives.
-/

namespace Sys2Proof.Laws.TableRow

open Sys2Proof.Machine

/-- The form a row gives (R101): mask and match for a command word, the request for a bus transaction, the access record
for a host access. -/
def Fits (p : Params) : Instr → Encoded → Prop
  | .nop _, .ctrl w => w &&& 0x00000007#32 = 0x00000000#32
  | .measure _, .ctrl w => w &&& 0x00000007#32 = 0x00000001#32
  | .measureRetry _, .ctrl w => w &&& 0x00000007#32 = 0x00000002#32
  | .check _, .ctrl w => w &&& 0x00000007#32 = 0x00000003#32
  | .reservedCmd _ _, .ctrl w => w &&& 0x00000004#32 = 0x00000004#32
  | .busOpen, .txn (.openBus path slaveAddress busRetryBudget timeout) =>
    path = p.devicePath ∧ slaveAddress = p.slaveAddr ∧ busRetryBudget = p.busRetries ∧ timeout = p.busTimeout
  | .busWake, .txn (.write bytes) => bytes = []
  | .busCmd, .txn (.write bytes) => bytes = [0x03, 0x00, 0x04]
  | .busRead, .txn (.read count) => count = 8
  | .busClose, .txn .close => True
  | .regRead offset, .host (.read .bits32 at') => at' = offset
  | .regWrite offset data, .host (.write .bits32 at' written) => at' = offset ∧ written = data
  | _, _ => False

/-- The instruction's encoding has its row's form, whatever the build parameters. -/
def Statement (i : Instr) : Prop := ∀ p : Params, Fits p i (encode p i)

/-- The low three bits of a command word are its CMD (R81). -/
theorem ctrlWord_and_cmd (g : BitVec 29) (c : BitVec 3) : ctrlWord g c &&& 0x00000007#32 = c.setWidth 32 := by
  refine BitVec.eq_of_getLsbD_eq fun i hi => ?_
  have h7 : ∀ i : Fin 32, (0x00000007#32).getLsbD i = decide (i.val < 3) := by decide
  rw [BitVec.getLsbD_and, ctrlWord_getLsbD, h7 ⟨i, hi⟩, BitVec.getLsbD_setWidth]
  by_cases h : i < 3
  · simp [h, hi]
  · simp [h, BitVec.getLsbD_of_ge c i (by omega)]

theorem nop (ignored : BitVec 29) : Statement (.nop ignored) := fun _ => ctrlWord_and_cmd _ _

theorem measure (ignored : BitVec 29) : Statement (.measure ignored) := fun _ => ctrlWord_and_cmd _ _

theorem measureRetry (ignored : BitVec 29) : Statement (.measureRetry ignored) := fun _ => ctrlWord_and_cmd _ _

theorem check (ignored : BitVec 29) : Statement (.check ignored) := fun _ => ctrlWord_and_cmd _ _

theorem reservedCmd (low : BitVec 2) (ignored : BitVec 29) : Statement (.reservedCmd low ignored) := by
  intro p
  have h : ∀ l : BitVec 2, (1#1 ++ l : BitVec (1 + 2)).setWidth 32 &&& 0x00000004#32 = 0x00000004#32 := by decide
  show ctrlWord ignored (1#1 ++ low : BitVec (1 + 2)) &&& (0x00000007#32 &&& 0x00000004#32) = _
  rw [← BitVec.and_assoc, ctrlWord_and_cmd, h]

theorem busOpen : Statement .busOpen := fun _ => ⟨rfl, rfl, rfl, rfl⟩

theorem busWake : Statement .busWake := fun _ => rfl

theorem busCmd : Statement .busCmd := fun _ => rfl

theorem busRead : Statement .busRead := fun _ => rfl

theorem busClose : Statement .busClose := fun _ => trivial

theorem regRead (offset : Nat) : Statement (.regRead offset) := fun _ => rfl

theorem regWrite (offset : Nat) (data : Word) : Statement (.regWrite offset data) := fun _ => ⟨rfl, rfl⟩

end Sys2Proof.Laws.TableRow
end

