-- ==== Sys2Proof/Laws/Step.lean ====
section
/-!
SUPPORT. What one step can do, said once: the effects of a host turn, of a sequencer turn, and of a step. Invariants and
frames are case splits on these, without unfolding the step.
-/

namespace Sys2Proof.Machine

/-- What a host access that is executed can do. -/
inductive HostEffect (s : State) : State → Prop where
  | nothing : HostEffect s s
  | misuse : HostEffect s s.setCmdErr
  | acceptAttempt (m : Mode) : s.busy = false → m ≠ .check → HostEffect s (s.accept m)
  | acceptCheck : s.busy = false → HostEffect s ((s.accept .check).setCurErr .noError)
  | setBound (v : Byte) : s.busy = false → HostEffect s { s with maxRetries := v }
  | setWakeDelay (v : Word) : s.busy = false → HostEffect s { s with wakeDelay := v }
  | setWriteModeDelay (v : Word) : s.busy = false → HostEffect s { s with writeModeDelay := v }
  | setReadDelay (v : Word) : s.busy = false → HostEffect s { s with readDelay := v }
  | setRetryDelay (v : Word) : s.busy = false → HostEffect s { s with retryDelay := v }
  | setResp (r : Response) : s.busy = false → HostEffect s { s with resp := r }
  | read (off : Nat) (v : Word) :
      HostEffect s { s with reads := s.reads ++ [⟨off, v⟩], draws := s.draws + 1 }

theorem HostEffect.whenIdle {s : State} {f : State → State} (h : s.busy = false → HostEffect s (f s)) :
    HostEffect s (s.whenIdle f) := by
  cases hb : s.busy
  · rw [State.whenIdle_of_idle f hb]; exact h hb
  · rw [State.whenIdle_of_busy f hb]; exact .misuse

theorem execNop_effect {s t : State} (h : execNop s = .next t) : HostEffect s t := by
  cases h; exact .whenIdle fun _ => .nothing

theorem execMeasure_effect {s t : State} (h : execMeasure s = .next t) : HostEffect s t := by
  cases h; exact .whenIdle fun hb => .acceptAttempt _ hb (by decide)

theorem execMeasureRetry_effect {s t : State} (h : execMeasureRetry s = .next t) : HostEffect s t := by
  cases h; exact .whenIdle fun hb => .acceptAttempt _ hb (by decide)

theorem execCheck_effect {s t : State} (h : execCheck s = .next t) : HostEffect s t := by
  cases h; exact .whenIdle fun hb => .acceptCheck hb

theorem execReservedCmd_effect {s t : State} (h : execReservedCmd s = .next t) : HostEffect s t := by
  cases h; exact .whenIdle fun _ => .misuse

theorem dispatchCtrl_effect {v : Word} {s t : State} (h : dispatchCtrl v s = .next t) : HostEffect s t := by
  unfold dispatchCtrl at h
  split at h; · exact execNop_effect h
  split at h; · exact execMeasure_effect h
  split at h; · exact execMeasureRetry_effect h
  split at h; · exact execCheck_effect h
  exact execReservedCmd_effect h

theorem State.writeReg_effect (v : Word) (s : State) (r : Reg) : HostEffect s (s.writeReg v r) := by
  cases r <;> simp only [State.writeReg]
  case maxRetries => exact .whenIdle fun hb => .setBound _ hb
  case wakeDelay => exact .whenIdle fun hb => .setWakeDelay _ hb
  case writeModeDelay => exact .whenIdle fun hb => .setWriteModeDelay _ hb
  case readDelay => exact .whenIdle fun hb => .setReadDelay _ hb
  case retryDelay => exact .whenIdle fun hb => .setRetryDelay _ hb
  case respLo => exact .whenIdle fun hb => .setResp _ hb
  case respHi => exact .whenIdle fun hb => .setResp _ hb
  all_goals exact .nothing

theorem undefinedAccess_ne_next {off : Nat} {t : State} : undefinedAccess off ≠ .next t := by
  unfold undefinedAccess; split <;> simp

theorem execRegRead_effect {off : Nat} {s t : State} (h : execRegRead off s = .next t) : HostEffect s t := by
  unfold execRegRead at h
  split at h
  · cases h; exact .read _ _
  · exact absurd h undefinedAccess_ne_next

theorem execRegWrite_effect {off : Nat} {v : Word} {s t : State} (h : execRegWrite off v s = .next t) :
    HostEffect s t := by
  unfold execRegWrite at h
  split at h
  · exact dispatchCtrl_effect h
  · cases h; exact State.writeReg_effect _ _ _
  · exact absurd h undefinedAccess_ne_next

/-- The instructions a host access decodes to are the host's (R101). -/
theorem decode_fetchHost {p : Params} {a : HostAccess} {i : Instr} (h : decode p (fetchHost a) = .instr i) :
    busPhase i = none := by
  have hc : ∀ w, busPhase (decodeCtrl w) = none := by
    intro w; unfold decodeCtrl; repeat' split
    all_goals rfl
  have ha : ∀ {w off j}, decodeAccess w off j = .instr i → i = j := by
    intro w off j h
    unfold decodeAccess at h
    split at h; · cases h
    split at h; · cases h
    cases h; rfl
  unfold fetchHost at h
  split at h
  · simp only [decode, Decoded.instr.injEq] at h; exact h ▸ hc _
  · cases a with
    | read w off => simp only [decode, decodeHost] at h; rw [ha h]; rfl
    | write w off v => simp only [decode, decodeHost] at h; rw [ha h]; rfl

theorem hostTurn_effect {a : HostAccess} {s t : State} (h : hostTurn a s = .next t) : HostEffect s t := by
  unfold hostTurn at h
  split at h
  case h_2 => cases h
  rename_i i hi
  have hb := decode_fetchHost hi
  cases i <;> simp only [busPhase, reduceCtorEq] at hb <;> simp only [exec] at h
  · exact execNop_effect h
  · exact execMeasure_effect h
  · exact execMeasureRetry_effect h
  · exact execCheck_effect h
  · exact execReservedCmd_effect h
  · exact execRegRead_effect h
  · exact execRegWrite_effect h

/-- What a sequencer turn can do. -/
inductive SequencerEffect (s : State) : State → Prop where
  | hold : SequencerEffect s s
  | issueOpen : s.phase = .openBus → s.outstanding = none → SequencerEffect s s.beginAttempt
  | issue (q : Request) : s.phase ≠ .openBus → s.phase.request s.params = some q → s.outstanding = none →
      SequencerEffect s (s.issue q)
  | opened (q : Request) : s.phase = .openBus → s.outstanding = some ⟨q, some .ok⟩ →
      SequencerEffect s s.consume.acquire
  | openFailed (q : Request) : s.phase = .openBus → s.outstanding = some ⟨q, some .err⟩ →
      SequencerEffect s (s.consume.raiseError .transportError)
  | written (q : Request) (d : Word) (p : Phase) :
      (s.phase, p) ∈ [(Phase.wake1, Phase.waitWake), (.wake2, .waitWriteMode), (.sendCmd, .waitRead)] →
      s.outstanding = some ⟨q, some .ok⟩ → SequencerEffect s (s.consume.hold d p)
  | stepFailed (q : Request) (a : Answer) (e : ErrCode) : s.phase ∈ [.wake1, .wake2, .sendCmd, .read] →
      e ∈ [.wakeupError, .commandError, .readError] → s.outstanding = some ⟨q, some a⟩ →
      SequencerEffect s (s.consume.raiseError e)
  | readDone (q : Request) (bs : List Byte) (r : Response) : s.phase = .read → Response.ofBytes bs = some r →
      s.outstanding = some ⟨q, some (.okBytes bs)⟩ →
      SequencerEffect s (s.consume.store r)
  | closed (q : Request) : s.phase = .close → s.outstanding = some ⟨q, some .ok⟩ →
      SequencerEffect s s.consume.release
  | closeFailed (q : Request) : s.phase = .close → s.outstanding = some ⟨q, some .err⟩ →
      SequencerEffect s (s.consume.setCloseFail.emit (.closeFailed s.attempts)).release
  | delayOver (p : Phase) :
      (s.phase, p) ∈ [(Phase.waitWake, Phase.wake2), (.waitWriteMode, .sendCmd), (.waitRead, .read),
        (.retryWait, .openBus)] →
      s.holdUs = 0 → SequencerEffect s (s.advance p)
  | validated : s.phase = .validate → s.mode ≠ .check → SequencerEffect s (s.runChecks.advance .attemptEnd)
  | checked : s.phase = .validate → s.mode = .check → SequencerEffect s s.runChecks.completeCheck
  | succeeded : s.phase = .attemptEnd → s.mode ≠ .check → s.curErr = .noError →
      SequencerEffect s (s.finish true .noError)
  | failedSingle : s.phase = .attemptEnd → s.mode = .single → s.curErr ≠ .noError →
      SequencerEffect s (s.reportFailure.finish false s.curErr)
  | exhausted : s.phase = .attemptEnd → s.mode = .retry → s.curErr ≠ .noError →
      s.maxRetries.toNat < s.attempts.toNat → SequencerEffect s (s.reportFailure.finish false .retriesExhausted)
  | retried : s.phase = .attemptEnd → s.mode = .retry → s.curErr ≠ .noError →
      s.attempts.toNat ≤ s.maxRetries.toNat → SequencerEffect s (s.reportFailure.hold s.retryDelay .retryWait)

theorem execBusOpen_effect {s t : State} (h : execBusOpen s = .next t) : SequencerEffect s t := by
  obtain ⟨hp, ⟨ho, rfl⟩ | ⟨q, ho, rfl⟩ | ⟨q, a, ho, hc⟩⟩ := transact_next h
  · exact .issueOpen (by simpa using hp) ho
  · exact .hold
  · obtain ⟨rfl, rfl⟩ | ⟨rfl, rfl⟩ := completeOpen_next hc
    · exact .opened q (by simpa using hp) ho
    · exact .openFailed q (by simpa using hp) ho

theorem execBusWake_effect {s t : State} (h : execBusWake s = .next t) : SequencerEffect s t := by
  obtain ⟨hp, ⟨ho, rfl⟩ | ⟨q, ho, rfl⟩ | ⟨q, a, ho, hc⟩⟩ := transact_next h
  · have hp' : s.phase = .wake1 ∨ s.phase = .wake2 := by simpa using hp
    refine .issue _ ?_ ?_ ho <;> rcases hp' with hp' | hp' <;> simp [hp', Phase.request]
  · exact .hold
  · have hp' : s.phase = .wake1 ∨ s.phase = .wake2 := by simpa using hp
    unfold completeWake at hc
    split at hc
    · rename_i h1
      have h1 : s.phase = .wake1 := h1
      obtain ⟨rfl, rfl⟩ | ⟨rfl, rfl⟩ := completeWrite_next hc
      · exact .written q _ _ (by simp [h1]) ho
      · exact .stepFailed q _ _ (by simp [h1]) (by simp) ho
    · rename_i h1
      have h2 : s.phase = .wake2 := hp'.resolve_left h1
      obtain ⟨rfl, rfl⟩ | ⟨rfl, rfl⟩ := completeWrite_next hc
      · exact .written q _ _ (by simp [h2]) ho
      · exact .stepFailed q _ _ (by simp [h2]) (by simp) ho

theorem execBusCmd_effect {s t : State} (h : execBusCmd s = .next t) : SequencerEffect s t := by
  obtain ⟨hp, hcase⟩ := transact_next h
  have hp' : s.phase = .sendCmd := by simpa using hp
  obtain ⟨ho, rfl⟩ | ⟨q, ho, rfl⟩ | ⟨q, a, ho, hc⟩ := hcase
  · exact .issue _ (by simp [hp']) (by simp [hp', Phase.request]) ho
  · exact .hold
  · obtain ⟨rfl, rfl⟩ | ⟨rfl, rfl⟩ := completeWrite_next hc
    · exact .written q _ _ (by simp [hp']) ho
    · exact .stepFailed q _ _ (by simp [hp']) (by simp) ho

theorem execBusRead_effect {s t : State} (h : execBusRead s = .next t) : SequencerEffect s t := by
  obtain ⟨hp, hcase⟩ := transact_next h
  have hp' : s.phase = .read := by simpa using hp
  obtain ⟨ho, rfl⟩ | ⟨q, ho, rfl⟩ | ⟨q, a, ho, hc⟩ := hcase
  · exact .issue _ (by simp [hp']) (by simp [hp', Phase.request]) ho
  · exact .hold
  · obtain ⟨bs, r, rfl, hr, rfl⟩ | rfl := completeRead_next hc
    · exact .readDone q bs r hp' hr ho
    · exact .stepFailed q a _ (by simp [hp']) (by simp) ho

theorem execBusClose_effect {s t : State} (h : execBusClose s = .next t) : SequencerEffect s t := by
  obtain ⟨hp, hcase⟩ := transact_next h
  have hp' : s.phase = .close := by simpa using hp
  obtain ⟨ho, rfl⟩ | ⟨q, ho, rfl⟩ | ⟨q, a, ho, hc⟩ := hcase
  · exact .issue _ (by simp [hp']) (by simp [hp', Phase.request]) ho
  · exact .hold
  · obtain ⟨rfl, rfl⟩ | ⟨rfl, rfl⟩ := completeClose_next hc
    · exact .closed q hp' ho
    · exact .closeFailed q hp' ho

theorem State.leaveDelay_effect {s : State} {p : Phase}
    (h : (s.phase, p) ∈ [(Phase.waitWake, Phase.wake2), (.waitWriteMode, .sendCmd), (.waitRead, .read),
      (.retryWait, .openBus)]) : SequencerEffect s (s.leaveDelay (State.advance p)) := by
  by_cases h0 : s.holdUs = 0
  · rw [State.leaveDelay_over _ h0]; exact .delayOver p h h0
  · rw [State.leaveDelay_holding _ h0]; exact .hold

theorem State.validate_effect {s : State} (hp : s.phase = .validate) : SequencerEffect s s.validate := by
  unfold State.validate
  cases hm : s.mode
  · exact .validated hp (by simp [hm])
  · exact .validated hp (by simp [hm])
  · exact .checked hp hm

theorem attemptEnd_effect {s t : State} (hp : s.phase = .attemptEnd) (h : attemptEnd s = .next t) :
    SequencerEffect s t := by
  obtain ⟨hm, ⟨he, rfl⟩ | ⟨he, hm', rfl⟩ | ⟨he, hm', rfl⟩⟩ := attemptEnd_next h
  · exact .succeeded hp hm he
  · exact .failedSingle hp hm' he
  · obtain ⟨hb, hr⟩ | ⟨hb, hr⟩ := s.endRetry_cases
    · rw [hr]; exact .exhausted hp hm' he hb
    · rw [hr]; exact .retried hp hm' he hb

theorem internalStep_effect {s t : State} (h : internalStep s = .next t) : SequencerEffect s t := by
  unfold internalStep at h
  split at h
  · cases h; exact State.leaveDelay_effect (by simp [*])
  · cases h; exact State.leaveDelay_effect (by simp [*])
  · cases h; exact State.leaveDelay_effect (by simp [*])
  · cases h; exact State.validate_effect ‹_›
  · exact attemptEnd_effect ‹_› h
  · cases h; exact State.leaveDelay_effect (p := .openBus) (by simp [*])
  · cases h; exact .hold

theorem sequencerTurn_effect {s t : State} (h : sequencerTurn s = .next t) : SequencerEffect s t := by
  unfold sequencerTurn at h
  cases hp : s.phase <;> simp only [hp, Phase.instr, exec] at h
  case openBus => exact execBusOpen_effect h
  case wake1 => exact execBusWake_effect h
  case wake2 => exact execBusWake_effect h
  case sendCmd => exact execBusCmd_effect h
  case read => exact execBusRead_effect h
  case close => exact execBusClose_effect h
  all_goals exact internalStep_effect h

/-- What a step can do. `base` is the state the turn is taken on: without the turn, or, with none scripted, with its
hold run out. -/
inductive StepEffect (s : State) : State → Prop where
  | host (a : HostAccess) (rest : List Turn) (t : State) : s.script = .host a :: rest →
      HostEffect { s with script := rest } t → StepEffect s t
  | sequencer (rest : List Turn) (t : State) : s.script = .sequencer :: rest →
      SequencerEffect { s with script := rest } t → StepEffect s t
  | answer (a : Answer) (q : Request) (rest : List Turn) : s.script = .answer a :: rest →
      s.outstanding = some ⟨q, none⟩ → answerFits q a = true →
      StepEffect s { s with script := rest, outstanding := some ⟨q, some a⟩ }
  | lateAnswer (a : Answer) (rest : List Turn) : s.script = .lateAnswer a :: rest →
      StepEffect s { s with script := rest }
  | elapse (us : Nat) (rest : List Turn) : s.script = .elapse us :: rest →
      StepEffect s (State.elapse us { s with script := rest })
  | reset (rest : List Turn) : s.script = .reset :: rest →
      StepEffect s (State.resetBlock { s with script := rest })
  | unscripted (t : State) : s.script = [] →
      SequencerEffect (if s.phase.isDelay then s.elapse s.holdUs.toNat else s) t → StepEffect s t

theorem step_effect {s t : State} (h : step s = .next t) : StepEffect s t := by
  unfold step at h
  split at h
  · exact .unscripted t ‹_› (sequencerTurn_effect h)
  · rename_i tr rest hs
    cases tr with
    | host a => exact .host a rest t hs (hostTurn_effect h)
    | sequencer => exact .sequencer rest t hs (sequencerTurn_effect h)
    | answer a =>
      obtain ⟨q, ho, hf, rfl⟩ := State.deliver_next h
      exact .answer a q rest hs ho hf
    | lateAnswer a => cases h; exact .lateAnswer a rest hs
    | elapse us => cases h; exact .elapse us rest hs
    | reset => cases h; exact .reset rest hs

/-- A run is its first step and then the rest. -/
theorem runSteps_of_step {n : Nat} {s t : State} (h : step s = .next t) : runSteps (n + 1) s = runSteps n t := by
  simp only [runSteps, h]

end Sys2Proof.Machine
end

