-- ==== Sys2Proof/Laws/Values.lean ====
section
/-!
SUPPORT. The CRC's steps lose nothing, so a changed byte changes the CRC; and the decoded values fit their registers.
-/

namespace Sys2Proof.Machine

/-! ### CRC (R141 to R143) -/

theorem crcBit_getLsbD (c : Half) (i : Nat) :
    (crcBit c).getLsbD i = (c.getLsbD (1 + i) ^^ (c.getLsbD 0 && (0xA001#16).getLsbD i)) := by
  unfold crcBit
  split <;> simp_all

/-- Bit 15 of the result is bit 0 of the operand (R141), so the operand can be read back. -/
theorem crcBit_injective : Function.Injective crcBit := by
  intro a b h
  have hbit : ∀ i, (crcBit a).getLsbD i = (crcBit b).getLsbD i := fun i => by rw [h]
  simp only [crcBit_getLsbD] at hbit
  have h0 : a.getLsbD 0 = b.getLsbD 0 := by
    have := hbit 15
    simpa using this
  refine BitVec.eq_of_getLsbD_eq fun i hi => ?_
  cases i with
  | zero => exact h0
  | succ n =>
    have := hbit n
    rw [h0, Nat.add_comm 1 n] at this
    exact (Bool.xor_left_inj).1 this

theorem crcBits_injective (n : Nat) : Function.Injective (crcBits n) := by
  induction n with
  | zero => intro a b h; exact h
  | succ n ih => intro a b h; exact crcBit_injective (ih h)

/-- Different accumulators stay different over a byte. -/
theorem crcByte_injective_left (b : Byte) : Function.Injective (crcByte · b) := by
  intro x y h
  exact (BitVec.xor_right_inj _).1 ((BitVec.xor_comm _ _).trans ((crcBits_injective 8 h).trans (BitVec.xor_comm _ _)))

/-- Different bytes lead to different accumulators. -/
theorem crcByte_injective_right (c : Half) : Function.Injective (crcByte c) := by
  intro x y h
  have e : x.setWidth 16 = y.setWidth 16 := (BitVec.xor_right_inj _).1 (crcBits_injective 8 h)
  refine BitVec.eq_of_toNat_eq ?_
  have := congrArg BitVec.toNat e
  simp only [BitVec.toNat_setWidth] at this
  omega

theorem crcBytes_injective (bytes : List Byte) : Function.Injective (crcBytes · bytes) := by
  induction bytes with
  | nil => intro a b h; exact h
  | cons x xs ih => intro a b h; exact crcByte_injective_left x (ih h)

/-- One changed byte, anywhere, changes the accumulator after all of them. -/
theorem crcBytes_ne_of_byte_ne (c : Half) (before after : List Byte) {x y : Byte} (h : x ≠ y) :
    crcBytes c (before ++ x :: after) ≠ crcBytes c (before ++ y :: after) := by
  simp only [crcBytes, List.foldl_append, List.foldl_cons]
  intro he
  exact h (crcByte_injective_right _ (crcBytes_injective after he))

/-! ### Decoded values (R163, R168) -/

theorem tempRaw_toNat (r : Response) : r.tempRaw.toNat = 256 * r.tempH.toNat + r.tempL.toNat :=
  pairValue_toNat _ _

theorem humRaw_toNat (r : Response) : r.humRaw.toNat = 256 * r.humH.toNat + r.humL.toNat :=
  pairValue_toNat _ _

/-- The sign flag is set from 0x8000 on (R89). -/
theorem half_sign (r : Half) : r.getLsbD 15 = decide (0x8000 ≤ r.toNat) := by
  have := BitVec.msb_eq_decide r
  simpa [BitVec.msb_eq_getLsbD_last] using this

theorem half_magnitude (r : Half) (h : 0x8000 ≤ r.toNat) : (r &&& 0x7FFF#16).toNat = r.toNat - 0x8000 := by
  have e : (r &&& 0x7FFF#16).toNat = r.toNat &&& (2 ^ 15 - 1) := by simp
  rw [e, Nat.and_two_pow_sub_one_eq_mod]
  have := r.isLt
  omega

theorem temperatureTenths_signMagnitude (r : Half) :
    temperatureTenths .signMagnitude r = if r.toNat < 0x8000 then (r.toNat : Int) else 0x8000 - (r.toNat : Int) := by
  unfold temperatureTenths
  by_cases h : r.toNat < 0x8000
  · simp only [half_sign, Nat.not_le.2 h, decide_false, Bool.false_eq_true, if_false, h, if_true]
  · have h' : 0x8000 ≤ r.toNat := Nat.le_of_not_lt h
    simp only [half_sign, h', decide_true, if_true, h, if_false, half_magnitude r h']
    omega

theorem temperatureTenths_unsigned (r : Half) : temperatureTenths .unsigned r = (r.toNat : Int) := rfl

theorem temperatureTenths_range (e : TempEncoding) (r : Half) :
    -32767 ≤ temperatureTenths e r ∧ temperatureTenths e r ≤ 65535 := by
  have := r.isLt
  cases e
  · rw [temperatureTenths_signMagnitude]; split <;> omega
  · rw [temperatureTenths_unsigned]; omega

/-- TEMPERATURE holds the decoded value exactly (R163). -/
theorem toInt_temperature (e : TempEncoding) (r : Half) :
    (BitVec.ofInt 32 (temperatureTenths e r)).toInt = temperatureTenths e r := by
  have := temperatureTenths_range e r
  rw [BitVec.toInt_ofInt_eq_self (by decide)] <;> norm_num <;> omega

/-- The extremes of the index (R168). -/
theorem discomfort_range (t h : Int) (ht : -32767 ≤ t ∧ t ≤ 65535) (hh : 0 ≤ h ∧ h ≤ 65535) :
    -216136126655 ≤ discomfort t h ∧ discomfort t h ≤ 429606270775 := by
  unfold discomfort
  constructor <;> nlinarith [mul_nonneg hh.1 (sub_nonneg.2 ht.1), mul_nonneg hh.1 (sub_nonneg.2 ht.2),
    mul_nonneg (sub_nonneg.2 hh.2) (sub_nonneg.2 ht.1), mul_nonneg (sub_nonneg.2 hh.2) (sub_nonneg.2 ht.2)]

/-- DI_E6 holds the index exactly (R164). -/
theorem toInt_discomfort (e : TempEncoding) (r h : Half) :
    (BitVec.ofInt 64 (discomfort (temperatureTenths e r) (h.toNat : Int))).toInt =
      discomfort (temperatureTenths e r) (h.toNat : Int) := by
  have hh := h.isLt
  have := discomfort_range _ (h.toNat : Int) (temperatureTenths_range e r) ⟨by omega, by omega⟩
  rw [BitVec.toInt_ofInt_eq_self (by decide)] <;> norm_num <;> omega

end Sys2Proof.Machine
end

