-- ==== Sys2Proof/Tests/Slice0.lean ====
section
/-!
SUPPORT. The model's own tests: ill-formed terms refused, words written out from the spec's formats, the vectors V<n> of
95_test_vectors.md on single operations and single steps, and for every obligation with hypotheses a witness that meets
them.
-/

namespace Sys2Proof.Tests

open Sys2Proof.Machine

/-! ### Small states -/

/-- Parameters: the defaults of R9, with arbitrary values for the six that are OPEN. -/
def build : Params := ⟨.byte0, .signMagnitude, 1, 2, 3, 4, 5, 6⟩

/-- V2's response. -/
def good : Response := ⟨0x03, 0x04, 0x02, 0x5B, 0x01, 0x13, 0xC1, 0xDE⟩

/-- Idle, with the reset values of R271 and V2's bytes in RESP. -/
def idle : State where
  maxRetries := 5
  wakeDelay := 800
  writeModeDelay := 1500
  readDelay := 30
  retryDelay := 300000
  busy := false
  done := false
  ok := false
  err := .noError
  closeFail := false
  cmdErr := false
  lastErr := .noError
  phase := .idle
  resp := good
  humidity := 0
  temperature := 0
  diE6 := 0
  crcCalc := 0
  crcRecv := 0
  attempts := 0
  mode := .single
  handleOpen := false
  curErr := .noError
  holdUs := 0
  outstanding := none
  crcAcc := 0
  log := []
  reads := []
  params := build
  script := []
  draws := 0

/-- Idle after a success: STATUS 0x00000006. -/
def succeeded : State := { idle with done := true, ok := true }

/-- A command of this mode, in this phase, in its first attempt. -/
def running (m : Mode) (p : Phase) : State :=
  { idle with busy := true, mode := m, phase := p, attempts := 1, handleOpen := p.ownsHandle }

/-- MEASURE in this phase, its request answered. -/
def answered (p : Phase) (q : Request) (a : Answer) : State :=
  { running .single p with outstanding := some ⟨q, some a⟩ }

/-- A failed attempt at its end. -/
def failed (m : Mode) (n : Half) (e : ErrCode) : State :=
  { running m .attemptEnd with attempts := n, curErr := e }

/-- The same state with these turns to come. -/
def scripted (turns : List Turn) (s : State) : State := { s with script := turns }

/-- The outcome is a next state of which this holds. -/
def gives (o : Result) (f : State → Bool) : Bool :=
  match o with
  | .next t => f t
  | _ => false

/-! ### WellFormed: a term each check refuses -/

theorem test_wf_misaligned : ¬ (Instr.regRead 0x06).WellFormed := by decide

theorem test_wf_outside : ¬ (Instr.regWrite 0x40 0).WellFormed := by decide

theorem test_wf_last : (Instr.regWrite 0x3C 0).WellFormed := by decide

/-! ### Decoding: words written out from the spec's formats -/

/-- F-CTRL (R81, R82): {[31:3] ignored, [2:0] CMD}. -/
theorem test_decode_nop : decodeTableWord 32 0b11111111111111111111111111111000 = some (.nop 0x1FFFFFFF) := by decide

theorem test_decode_measure : decodeTableWord 32 0b00000000000000000000000000000001 = some (.measure 0) := by decide

theorem test_decode_measureRetry : decodeTableWord 32 0b10000000000000000000000000000010 = some (.measureRetry 0x10000000) := by
  decide

/-- V34: 0x0000000B is CMD 3. -/
theorem test_decode_check : decodeTableWord 32 0x0000000B = some (.check 1) := by decide

theorem test_decode_reservedCmd : decodeTableWord 32 0b00000000000000000000000000000110 = some (.reservedCmd 2 0) := by
  decide

/-- F-CMD (R84): 00000011 00000000 00000100. -/
theorem test_decode_busCmd : decodeTableWord 24 0b000000110000000000000100 = some .busCmd := by decide

/-- F-WAKE (R85): no bits. -/
theorem test_decode_busWake : decodeTableWord 0 0 = some .busWake := by decide

/-- F-TXN (R86). -/
theorem test_decode_busOpen : decode build (.txn (.openBus 1 2 3 4)) = .instr .busOpen := by decide

theorem test_decode_busRead : decode build (.txn (.read 8)) = .instr .busRead := by decide

theorem test_decode_busClose : decode build (.txn .close) = .instr .busClose := by decide

/-- F-HOST (R87). -/
theorem test_decode_regRead : decode build (.host (.read .bits32 0x38)) = .instr (.regRead 0x38) := by decide

theorem test_decode_regWrite : decode build (.host (.write .bits32 0x0C 7)) = .instr (.regWrite 0x0C 7) := by decide

/-- The rejections, each by its name. -/
theorem test_decode_rejects :
    decode build (.host (.read .bits8 0)) = .reject .accessWidth ∧
    decode build (.host (.write .bits16 0 0)) = .reject .accessWidth ∧
    decode build (.host (.read .bits32 0x3D)) = .reject .misaligned ∧
    decode build (.host (.read .bits32 0x40)) = .reject .outsideWindow ∧
    decode build (.txn (.write [0x03, 0x00])) = .reject .writeBytes ∧
    decode build (.txn (.read 7)) = .reject .readCount ∧
    decode build (.txn (.openBus 1 2 3 5)) = .reject .binding := by decide

/-! ### CRC (V12 to V15) -/

theorem test_crcBit : crcBit 0x0001 = 0xA001 ∧ crcBit 0x0002 = 0x0001 ∧ crcBit 0xFFFC = 0x7FFE ∧
    crcBit 0xFFFF = 0xDFFE ∧ crcBit 0x8000 = 0x4000 := by decide +kernel

theorem test_crcByte : crcByte 0xFFFF 0x00 = 0x40BF ∧ crcByte 0xFFFF 0x01 = 0x807E ∧ crcByte 0xFFFF 0x03 = 0x41FF ∧
    crcByte 0xFFFF 0xFF = 0x00FF := by decide +kernel

theorem test_crcCompute :
    crcBytes 0xFFFF [0x03, 0x04, 0x01, 0xF4, 0x80, 0x65] = 0x0D10 ∧
    crcBytes 0xFFFF [0x03, 0x04, 0x03, 0xE8, 0x00, 0xFA] = 0xDBF1 ∧
    crcBytes 0xFFFF [0x83, 0x04, 0x02, 0x5B, 0x01, 0x13] = 0x1EDE := by decide +kernel

/-- GK1's check value over the bytes "123456789" (R147). -/
theorem test_crc_checkValue :
    crcBytes 0xFFFF [0x31, 0x32, 0x33, 0x34, 0x35, 0x36, 0x37, 0x38, 0x39] = 0x4B37 := by decide +kernel

/-- V15: the swapped trailer fails. -/
theorem test_trailer : crcValid good = true ∧ crcValid { good with crcL := 0xDE, crcH := 0xC1 } = false := by
  decide +kernel

/-! ### Decoder (V17 to V20) -/

/-- V17: the low byte is not sign-extended. -/
theorem test_value : pairValue 0x00 0xFF = 0x00FF ∧ pairValue 0x03 0xE8 = 1000 := by decide

theorem test_temperature_signMagnitude :
    temperatureTenths .signMagnitude 0x8065 = -101 ∧ temperatureTenths .signMagnitude 0x8000 = 0 ∧
    temperatureTenths .signMagnitude 0x7FFF = 32767 ∧ temperatureTenths .signMagnitude 0xFFFF = -32767 := by decide

theorem test_temperature_unsigned : temperatureTenths .unsigned 0x8065 = 32869 := by decide

theorem test_discomfort :
    discomfort 275 603 = 76368775 ∧ discomfort (-101) 500 = 25969500 ∧ discomfort (-32767) 0 = -2607827000 := by decide

/-- V20: FUNC 0x83, and humidity 0x825B. -/
theorem test_errorFlag :
    errorFlag .byte0 { good with func := 0x83 } = true ∧ errorFlag .byte2 { good with func := 0x83 } = false ∧
    errorFlag .byte0 { good with humH := 0x82 } = false ∧ errorFlag .byte2 { good with humH := 0x82 } = true := by
  decide

/-! ### Host commands (V34 to V37) -/

theorem test_nop : gives (exec (.nop 0) succeeded) (fun t => t.statusWord == 0x00000006) = true := by decide

theorem test_reservedCmd : gives (exec (.reservedCmd 1 0) succeeded) (fun t => t.statusWord == 0x00000106) = true := by
  decide

/-- V29: BUSY and PHASE 1. -/
theorem test_measure : gives (exec (.measure 0) succeeded) (fun t => t.statusWord == 0x00001001) = true := by decide

/-- V35: a command written during WAIT_WAKE starts nothing. -/
theorem test_measureRetry_busy :
    gives (exec (.measureRetry 0) (running .single .waitWake))
      (fun t => t.statusWord == 0x00003101 && t.mode == .single) = true := by decide

/-- V37: from 0x0003019A, acceptance clears LAST_ERR, CLOSE_FAIL and CMD_ERR. -/
theorem test_check_accepts :
    gives (exec (.check 0)
        { idle with done := true, err := .commandError, lastErr := .commandError, closeFail := true, cmdErr := true })
      (fun t => t.statusWord == 0x0000A001) = true := by decide

/-- V36: CHECK's step on V2's RESP. -/
theorem test_check_passes :
    gives (sequencerTurn { running .check .validate with attempts := 0 })
      (fun t => t.statusWord == 0x00000006 && t.crcCalc == 0xDEC1 && t.crcRecv == 0xDEC1 && t.humidity == 0x025B &&
        t.temperature == 0x00000113 && t.diE6 == 76368775 && t.attempts == 0 && t.log == []) = true := by
  decide +kernel

/-- V21: a bad CRC and a set flag. -/
theorem test_check_order :
    gives (sequencerTurn { running .check .validate with resp := { good with func := 0x83 } })
      (fun t => t.statusWord == 0x0005002A && t.crcCalc == 0x1EDE && t.crcRecv == 0xDEC1 && t.humidity == 0) = true := by
  decide +kernel

/-! ### Register accesses (V32, V33, V35) -/

/-- V32: reads after reset. -/
theorem test_regRead_reset :
    gives (exec (.regRead 0x04) State.reset) (fun t => t.reads == [⟨0x04, 0⟩]) = true ∧
    gives (exec (.regRead 0x18) State.reset) (fun t => t.reads == [⟨0x18, 0x000493E0⟩]) = true := by decide

/-- RESP_LO of V2's bytes (R118's example). -/
theorem test_regRead_respLo :
    gives (exec (.regRead 0x1C) idle) (fun t => t.reads == [⟨0x1C, 0x5B020403⟩]) = true := by decide

theorem test_regWrite_bound :
    gives (exec (.regWrite 0x08 0x105) idle) (fun t => t.maxRetries == 5 && !t.cmdErr) = true := by decide

theorem test_regWrite_respHi :
    gives (exec (.regWrite 0x20 0xDEC11301) { idle with resp := ⟨3, 4, 2, 0x5B, 0, 0, 0, 0⟩ })
      (fun t => t.resp == good) = true := by decide

/-- LOADRESP of V2's bytes, as program P3 encodes it (R99). -/
theorem test_loadResp :
    (Pseudo.loadResp good).expand = [.write .bits32 0x1C 0x5B020403, .write .bits32 0x20 0xDEC11301] := by decide

/-! ### Bus transactions (R111 to R119, V23, V29) -/

/-- V29: the first step issues OPEN and sets ATTEMPTS to 1. -/
theorem test_busOpen_issue :
    gives (exec .busOpen { running .single .openBus with attempts := 0 })
      (fun t => t.attempts == 1 && t.outstanding == some ⟨.openBus 1 2 3 4, none⟩) = true := by decide

theorem test_busOpen_fails :
    gives (exec .busOpen (answered .openBus (.openBus 1 2 3 4) .err))
      (fun t => t.curErr == .transportError && t.phase == .attemptEnd && !t.handleOpen) = true := by decide

/-- R112's example: hold 800 in WAIT_WAKE; V24's STATUS 0x00003001. -/
theorem test_busWake_first :
    gives (exec .busWake (answered .wake1 (.write []) .ok)) (fun t => t.holdUs == 800 && t.statusWord == 0x00003001) = true := by
  decide

/-- R114's example. -/
theorem test_busWake_second :
    gives (exec .busWake (answered .wake2 (.write []) .ok)) (fun t => t.holdUs == 1500 && t.phase == .waitWriteMode) = true := by
  decide

/-- R116's example. -/
theorem test_busCmd :
    gives (exec .busCmd (answered .sendCmd (.write [0x03, 0x00, 0x04]) .ok))
      (fun t => t.holdUs == 30 && t.phase == .waitRead) = true := by decide

/-- R118's example. -/
theorem test_busRead :
    gives (exec .busRead
        { answered .read (.read 8) (.okBytes [0x03, 0x04, 0x02, 0x5B, 0x01, 0x13, 0xC1, 0xDE]) with
          resp := ⟨0, 0, 0, 0, 0, 0, 0, 0⟩ })
      (fun t => t.resp.wordLo == 0x5B020403 && t.resp.wordHi == 0xDEC11301 && t.phase == .close) = true := by decide

/-- V23, "READ, short": RESP keeps its contents. -/
theorem test_busRead_short :
    gives (exec .busRead (answered .read (.read 8) (.okBytes [0x03, 0x04])))
      (fun t => t.curErr == .readError && t.resp == good && t.phase == .close) = true := by decide

/-- R119's example: CLOSE_FAIL, and on to VALIDATE. -/
theorem test_busClose_fails :
    gives (exec .busClose (answered .close .close .err))
      (fun t => t.closeFail && t.phase == .validate && !t.handleOpen && t.log == [.closeFailed 1]) = true := by decide

/-- After a step error, ATTEMPT_END (V23). -/
theorem test_busClose_afterError :
    gives (exec .busClose { answered .close .close .ok with curErr := .commandError })
      (fun t => t.phase == .attemptEnd && !t.closeFail && t.curErr == .commandError) = true := by decide

/-! ### ATTEMPT_END (V23, V28, R183) -/

theorem test_attemptEnd_single :
    gives (sequencerTurn (failed .single 1 .transportError))
      (fun t => t.statusWord == 0x0001000A && t.log == [.attemptFailed 1 .transportError]) = true := by decide

/-- R183's example: BOUND 5, the 6th attempt; the 5th goes on to RETRY_WAIT. -/
theorem test_attemptEnd_retry :
    gives (sequencerTurn (failed .retry 6 .readError)) (fun t => t.statusWord == 0x0004003A) = true ∧
    gives (sequencerTurn (failed .retry 5 .readError)) (fun t => t.phase == .retryWait && t.holdUs == 300000) = true := by
  decide

/-! ### The invariant holds of the witnesses' states -/

/-- What the witnesses' states have in common decides the invariant. -/
theorem inv_idle (s : State) (turns : List Turn) (h : s = scripted turns idle) : s.Inv := by
  subst h
  constructor <;> simp [scripted, idle, Phase.ownsHandle, Phase.beforeError, State.attemptLimit, State.hasReading]

/-- MEASURE accepted, its OPEN not yet issued. -/
def opening : State := { running .single .openBus with attempts := 0 }

theorem inv_opening (s : State) (turns : List Turn) (h : s = scripted turns opening) : s.Inv := by
  subst h
  constructor <;>
    simp [scripted, opening, running, idle, Phase.ownsHandle, Phase.beforeError, State.attemptLimit,
      State.attemptsToCome, State.hasReading]

/-- MEASURE in WAKE1, the first wake not yet issued. -/
def waking : State := running .single .wake1

theorem inv_waking (s : State) (turns : List Turn) (h : s = scripted turns waking) : s.Inv := by
  subst h
  constructor <;>
    simp [scripted, waking, running, idle, Phase.ownsHandle, Phase.beforeError, State.attemptLimit,
      State.attemptsToCome, State.hasReading]

/-- MEASURE in WAKE1, the first wake issued and not answered. -/
def waiting : State := { waking with outstanding := some ⟨.write [], none⟩ }

theorem inv_waiting (s : State) (turns : List Turn) (h : s = scripted turns waiting) : s.Inv := by
  subst h
  constructor <;>
    simp [scripted, waiting, waking, running, idle, Phase.ownsHandle, Phase.beforeError, Phase.request,
      State.attemptLimit, State.attemptsToCome, State.hasReading]

/-! ### Witnesses: concrete states and operands that meet the hypotheses of each obligation, clause by clause -/

theorem witness_DecodeEncodeRoundTrip : (Instr.regWrite 0x3C 0xFFFFFFFF).WellFormed ∧ (Instr.regRead 0).WellFormed := by
  decide

theorem witness_DecodeAcceptsOnlyEncodings :
    decode build (.ctrl 0xFFFFFFFF) = .instr (.reservedCmd 3 0x1FFFFFFF) ∧
    decode build (.host (.read .bits32 0x3C)) = .instr (.regRead 0x3C) ∧
    decode build (.txn (.write [])) = .instr .busWake := by decide

/-- An access that decodes; a read at the last offset of the window; a write at its first. -/
theorem witness_StepRunsHostInstruction :
    (scripted [.host (wr 0x00 1), .sequencer] idle).script = .host (wr 0x00 1) :: [.sequencer] ∧
    decode build (fetchHost (wr 0x00 1)) = .instr (.measure 0) ∧
    (0x3C % 4 = 0 ∧ 0x3C < 0x40 ∧
      (scripted [.host (.read .bits32 0x3C)] idle).script = .host (.read .bits32 0x3C) :: []) ∧
    (0x00 % 4 = 0 ∧ 0x00 < 0x40 ∧
      (scripted [.host (.write .bits32 0x00 2)] idle).script = .host (.write .bits32 0x00 2) :: []) := by decide

/-- A transaction phase, an internal phase, a delay phase with a hold pending, and IDLE; scripted and not. -/
theorem witness_StepRunsSequencerInstruction :
    (running .single .sendCmd).phase.request build = some (.write [0x03, 0x00, 0x04]) ∧
    (scripted [.sequencer] (running .single .sendCmd)).script = .sequencer :: [] ∧
    (running .single .sendCmd).script = [] ∧
    ((scripted [.sequencer] (running .single .validate)).script = .sequencer :: [] ∧
      (running .single .validate).phase.isDelay = false) ∧
    ({ running .single .waitWake with holdUs := 800 }.script = [] ∧
      { running .single .waitWake with holdUs := 800 }.phase.isDelay = true) ∧
    (scripted [.sequencer] idle).phase = .idle := by decide

theorem witness_PlacedInstructionRuns :
    decodeTableWord 24 0x030004 = some .busCmd ∧ decodeTableWord 0 0 = some .busWake ∧
    decodeTableWord 32 0xFFFFFFFF = some (.reservedCmd 3 0x1FFFFFFF) := by decide

/-- Another width; the first misaligned offset; the first offset outside the window. -/
theorem witness_UndefinedAccessRefused :
    AccessWidth.bits16 ≠ .bits32 ∧ 0x01 % 4 ≠ 0 ∧ 0x40 ≤ 0x40 ∧
    (scripted [.host (.read .bits16 0)] idle).script = .host (.read .bits16 0) :: [] ∧
    (scripted [.host (.write .bits32 0x40 1)] idle).script = .host (.write .bits32 0x40 1) :: [] := by decide

theorem witness_CtrlWriteDispatch :
    (running .single .waitWake).busy = true ∧ (0xFFFFFFF8#32).toNat % 8 = 0 ∧ (9#32).toNat % 8 = 1 ∧
    (2#32).toNat % 8 = 2 ∧ (3#32).toNat % 8 = 3 ∧ 4 ≤ (4#32).toNat % 8 ∧ 4 ≤ (7#32).toNat % 8 ∧
    (0xFFFFFFF9#32).toNat % 8 = (1#32).toNat % 8 := by decide

theorem witness_NopMeaning : idle.busy = false ∧ (running .single .waitWake).busy = true := by decide

theorem witness_CtrlWriteWhileBusy :
    (running .retry .retryWait).busy = true ∧
    Instr.check 7 ∈ [Instr.nop 7, .measure 7, .measureRetry 7, .check 7, .reservedCmd 1 7, .regWrite 0x00 3] := by decide

theorem witness_AcceptWritesCommandFields :
    succeeded.busy = false ∧
    (Instr.check 0, Mode.check, Phase.validate) ∈
      [(Instr.measure 0, Mode.single, Phase.openBus), (.measureRetry 0, .retry, .openBus), (.check 0, .check, .validate)] := by
  decide

theorem witness_AcceptedCommandsExactly : succeeded.busy = false := by decide

theorem witness_ReservedCommandWhileIdle : succeeded.busy = false := by decide

theorem witness_BusOpenSteps :
    (opening.phase = .openBus ∧ opening.outstanding = none) ∧
    (answered .openBus (openRequest build) .ok).phase = .openBus ∧
    (answered .openBus (openRequest build) .ok).outstanding = some ⟨openRequest build, some .ok⟩ ∧
    (answered .openBus (openRequest build) .err).outstanding = some ⟨openRequest build, some .err⟩ := by decide

theorem witness_BusWakeSteps :
    (waking.phase = .wake1 ∧ waking.outstanding = none) ∧
    ((running .single .wake2).phase = .wake2 ∧ (running .single .wake2).outstanding = none) ∧
    ((answered .wake1 (.write []) .ok).phase = .wake1 ∧
      (answered .wake1 (.write []) .ok).outstanding = some ⟨.write [], some .ok⟩) ∧
    ((answered .wake2 (.write []) .ok).phase = .wake2 ∧
      (answered .wake2 (.write []) .ok).outstanding = some ⟨.write [], some .ok⟩) ∧
    ((answered .wake2 (.write []) .err).phase = .wake2 ∧
      (answered .wake2 (.write []) .err).outstanding = some ⟨.write [], some .err⟩) := by decide

theorem witness_BusCmdSteps :
    ((running .single .sendCmd).phase = .sendCmd ∧ (running .single .sendCmd).outstanding = none) ∧
    (answered .sendCmd (.write commandBytes) .ok).phase = .sendCmd ∧
    (answered .sendCmd (.write commandBytes) .ok).outstanding = some ⟨.write commandBytes, some .ok⟩ ∧
    (answered .sendCmd (.write commandBytes) .err).outstanding = some ⟨.write commandBytes, some .err⟩ := by decide

/-- No answer yet; `Err`; the lengths next to 8; 8. -/
theorem witness_BusReadSteps :
    ((running .single .read).phase = .read ∧ (running .single .read).outstanding = none) ∧
    (answered .read (.read 8) .err).outstanding = some ⟨.read 8, some .err⟩ ∧
    ((answered .read (.read 8) (.okBytes [1, 2, 3, 4, 5, 6, 7])).outstanding =
        some ⟨.read 8, some (.okBytes [1, 2, 3, 4, 5, 6, 7])⟩ ∧ [1, 2, 3, 4, 5, 6, 7].length ≠ 8) ∧
    [1, 2, 3, 4, 5, 6, 7, 8, 9].length ≠ 8 ∧
    (answered .read (.read 8) (.okBytes [1, 2, 3, 4, 5, 6, 7, 8])).outstanding =
      some ⟨.read 8, some (.okBytes [1, 2, 3, 4, 5, 6, 7, 8])⟩ := by decide

theorem witness_BusCloseSteps :
    ((running .single .close).phase = .close ∧ (running .single .close).outstanding = none) ∧
    (answered .close .close .ok).phase = .close ∧
    (answered .close .close .ok).outstanding = some ⟨.close, some .ok⟩ ∧
    (answered .close .close .err).outstanding = some ⟨.close, some .err⟩ := by decide

theorem witness_UnansweredRequestHolds :
    waiting.phase.instr = some .busWake ∧ waiting.outstanding = some ⟨.write [], none⟩ := by decide

theorem witness_BusInstructionOutOfPhase :
    (busPhase .busClose).isSome = true ∧ (running .single .close).phase.instr = some .busClose ∧
    idle.phase.instr ≠ some .busClose := by decide

/-- An answer that fits; one that does not; one that no request waits for. -/
theorem witness_AnswerTurn :
    ((scripted [.answer .ok] waiting).script = .answer .ok :: [] ∧
      (scripted [.answer .ok] waiting).outstanding = some ⟨.write [], none⟩ ∧ answerFits (.write []) .ok = true) ∧
    ((scripted [.answer (.okBytes [])] waiting).script = .answer (.okBytes []) :: [] ∧
      answerFits (.write []) (.okBytes []) = false) ∧
    (scripted [.answer .ok] idle).outstanding = none := by decide

theorem witness_DelayPhaseSteps :
    (Phase.waitRead, Phase.read) ∈
      [(Phase.waitWake, Phase.wake2), (.waitWriteMode, .sendCmd), (.waitRead, .read), (.retryWait, .openBus)] ∧
    ((running .single .waitRead).phase = .waitRead ∧ (running .single .waitRead).holdUs = 0) ∧
    { running .single .waitRead with holdUs := 1 }.holdUs ≠ 0 := by decide

/-- A hold of 800 from which 300 + 499 µs are not enough and 300 + 500 µs are. -/
theorem witness_HoldIsALowerBound :
    (scripted ([300, 499].map Turn.elapse ++ [.sequencer]) { running .single .waitWake with holdUs := 800 }).phase.isDelay = true ∧
    (scripted ([300, 499].map Turn.elapse ++ [.sequencer]) { running .single .waitWake with holdUs := 800 }).script =
      [300, 499].map Turn.elapse ++ [.sequencer] ∧
    [300, 499].sum < (800#32).toNat ∧ ¬ [300, 500].sum < (800#32).toNat := by decide

/-- V7's bad CRC; V20's flag with a good CRC; V2. -/
theorem witness_ValidateOutcomes :
    (running .single .validate).phase = .validate ∧ (running .single .validate).mode ≠ .check ∧
    { good with crcH := 0xDF }.trailer ≠ crcCompute { good with crcH := 0xDF } ∧
    ((⟨0x83, 0x04, 0x02, 0x5B, 0x01, 0x13, 0xDE, 0x1E⟩ : Response).trailer =
        crcCompute ⟨0x83, 0x04, 0x02, 0x5B, 0x01, 0x13, 0xDE, 0x1E⟩ ∧
      errorFlag .byte0 ⟨0x83, 0x04, 0x02, 0x5B, 0x01, 0x13, 0xDE, 0x1E⟩ = true) ∧
    (good.trailer = crcCompute good ∧ errorFlag .byte0 good = false) := by decide +kernel

theorem witness_CheckOrder :
    (running .check .validate).phase = .validate ∧
    { running .check .validate with resp := { good with crcH := 0xDF } }.resp.trailer ≠
      crcCompute { good with crcH := 0xDF } ∧
    (running .check .validate).resp.trailer = crcCompute good ∧
    errorFlag (running .check .validate).params.errOffset (running .check .validate).resp = false := by decide +kernel

theorem witness_CheckCompletes :
    (running .check .validate).phase = .validate ∧ (running .check .validate).mode = .check ∧
    (running .check .validate).resp.trailer = crcCompute (running .check .validate).resp ∧
    errorFlag (running .check .validate).params.errOffset (running .check .validate).resp = false := by decide +kernel

/-- Both encodings, and the raw values on either side of the sign flag. -/
theorem witness_DecodeWritesReading :
    idle.params.tempEncoding = .signMagnitude ∧
    { idle with params := { build with tempEncoding := .unsigned } }.params.tempEncoding = .unsigned ∧
    256 * (0x7F#8).toNat + (0xFF#8).toNat < 0x8000 ∧ 0x8000 ≤ 256 * (0x80#8).toNat + (0x00#8).toNat := by decide

theorem witness_DecodedRanges :
    idle.params.tempEncoding = .signMagnitude ∧
    { idle with params := { build with tempEncoding := .unsigned } }.params.tempEncoding = .unsigned := by decide

theorem witness_CheckTwiceSameReading :
    (scripted [.host (wr 0x00 3), .sequencer, .host (wr 0x00 3), .sequencer] idle).busy = false ∧
    (3#32).toNat % 8 = 3 ∧
    (scripted [.host (wr 0x00 3), .sequencer, .host (wr 0x00 3), .sequencer] idle).script =
      [.host (wr 0x00 3), .sequencer, .host (wr 0x00 3), .sequencer] := by decide

theorem witness_SingleBitFlipDetected :
    (5 : Fin 8).val < 6 ∧ 6 ≤ (6 : Fin 8).val ∧ crcValid good = true := by decide +kernel

theorem witness_AttemptEndSuccess :
    (running .retry .attemptEnd).phase = .attemptEnd ∧ (running .retry .attemptEnd).curErr = .noError ∧
    (running .retry .attemptEnd).mode ≠ .check := by decide

theorem witness_AttemptEndSingleFailure :
    (failed .single 1 .readError).phase = .attemptEnd ∧ (failed .single 1 .readError).curErr ≠ .noError ∧
    (failed .single 1 .readError).mode = .single := by decide

/-- BOUND 5: the 6th attempt exceeds it, the 5th does not. -/
theorem witness_AttemptEndRetryFailure :
    (failed .retry 6 .readError).phase = .attemptEnd ∧ (failed .retry 6 .readError).curErr ≠ .noError ∧
    (failed .retry 6 .readError).mode = .retry ∧
    (failed .retry 6 .readError).maxRetries.toNat < (failed .retry 6 .readError).attempts.toNat ∧
    (failed .retry 5 .readError).attempts.toNat ≤ (failed .retry 5 .readError).maxRetries.toNat := by decide

theorem witness_RegisterReads : succeeded.ok = true ∧ idle.ok = false := by decide

theorem witness_RegisterWritesWhileIdle : idle.busy = false := by decide

theorem witness_RegisterWritesWhileBusy :
    (running .check .validate).busy = true ∧ 0x20 ∈ [0x08, 0x0C, 0x10, 0x14, 0x18, 0x1C, 0x20] := by decide

theorem witness_ReadOnlyWritesIgnored : 0x3C ∈ [0x04, 0x24, 0x28, 0x2C, 0x30, 0x34, 0x38, 0x3C] := by decide

theorem witness_ReadAfterWrite : idle.busy = false ∧ 0x20 ∈ [0x0C, 0x10, 0x14, 0x18, 0x1C, 0x20] := by decide

theorem witness_ResetTurn :
    (scripted [.reset] waiting).script = .reset :: [] ∧
    (scripted [.lateAnswer .ok] idle).script = .lateAnswer .ok :: [] := by decide

theorem witness_StepKeepsInvariant :
    (scripted [.host (wr 0x00 1)] idle).Inv ∧
    step (scripted [.host (wr 0x00 1)] idle) = .next (State.accept .single idle) :=
  ⟨inv_idle _ _ rfl, rfl⟩

theorem witness_StepNeverFaults : (scripted [.sequencer] waking).Inv := inv_waking _ _ rfl

/-- An access the block defines, and an answer that a request waits for. -/
theorem witness_StepAnswersNextState :
    ((scripted [.host (rd 0x3C)] idle).Inv ∧ decode build (fetchHost (rd 0x3C)) = .instr (.regRead 0x3C)) ∧
    ((scripted [.answer .err] waiting).Inv ∧ (scripted [.answer .err] waiting).outstanding = some ⟨.write [], none⟩ ∧
      answerFits (.write []) .err = true) :=
  ⟨⟨inv_idle _ _ rfl, rfl⟩, inv_waiting _ _ rfl, rfl, rfl⟩

/-- A step out of IDLE, and one from another phase. -/
theorem witness_PhaseSuccession :
    ((scripted [.host (wr 0x00 3)] idle).Inv ∧
      step (scripted [.host (wr 0x00 3)] idle) = .next ((State.accept .check idle).setCurErr .noError) ∧
      idle.phase = .idle ∧ ((State.accept .check idle).setCurErr .noError).phase ≠ .idle) ∧
    ((scripted [.sequencer] waking).Inv ∧ step (scripted [.sequencer] waking) = .next waiting) :=
  ⟨⟨inv_idle _ _ rfl, rfl, rfl, by decide⟩, inv_waking _ _ rfl, rfl⟩

/-- A step that writes no result and no CRC; VALIDATE of V2's bytes, which passes both checks. -/
theorem witness_ResultsOnlyFromDecode :
    step (scripted [.sequencer] waking) = .next waiting ∧ (scripted [.sequencer] waking).script.head? ≠ some .reset ∧
    ((running .single .validate).phase = .validate ∧ crcValid (running .single .validate).resp = true ∧
      errorFlag (running .single .validate).params.errOffset (running .single .validate).resp = false) :=
  ⟨rfl, by decide, by decide +kernel⟩

/-- A step that leaves RESP, and the completion of READ that fills it. -/
theorem witness_StableWhileBusy :
    (step (scripted [.sequencer] waking) = .next waiting ∧ (scripted [.sequencer] waking).busy = true ∧
      (scripted [.sequencer] waking).script.head? ≠ some .reset) ∧
    (gives (step (answered .read (.read 8) (.okBytes [1, 2, 3, 4, 5, 6, 7, 8])))
        (fun t => t.resp == ⟨1, 2, 3, 4, 5, 6, 7, 8⟩) = true ∧
      (answered .read (.read 8) (.okBytes [1, 2, 3, 4, 5, 6, 7, 8])).busy = true ∧
      (answered .read (.read 8) (.okBytes [1, 2, 3, 4, 5, 6, 7, 8])).script.head? ≠ some .reset) :=
  ⟨⟨rfl, by decide, by decide⟩, by decide, by decide, by decide⟩

theorem witness_HostCannotDisturbCommand :
    (scripted [.host (wr 0x0C 0)] waking).busy = true ∧
    (scripted [.host (wr 0x0C 0)] waking).script = .host (wr 0x0C 0) :: [] ∧
    step (scripted [.host (wr 0x0C 0)] waking) = .next waking.setCmdErr ∧ waking.setCmdErr.cmdErr = true :=
  ⟨rfl, rfl, rfl, rfl⟩

/-- A step with no event, one with each event. -/
theorem witness_LogEvents :
    step (scripted [.sequencer] waking) = .next waiting ∧
    gives (step (answered .close .close .err)) (fun t => t.log == [.closeFailed 1]) = true ∧
    gives (step (failed .single 1 .readError)) (fun t => t.log == [.attemptFailed 1 .readError]) = true :=
  ⟨rfl, by decide, by decide⟩

/-- OPEN issued without a handle, the wake write with one, and that write answered. -/
theorem witness_RequestDiscipline :
    ((scripted [] opening).Inv ∧ step (scripted [] opening) = .next opening.beginAttempt ∧ opening.outstanding = none ∧
      opening.beginAttempt.outstanding = some ⟨.openBus 1 2 3 4, none⟩ ∧ opening.handleOpen = false) ∧
    ((scripted [.sequencer] waking).Inv ∧ step (scripted [.sequencer] waking) = .next waiting ∧
      waking.outstanding = none ∧ waiting.outstanding = some ⟨.write [], none⟩ ∧ waking.handleOpen = true) ∧
    ((scripted [.answer .ok] waiting).Inv ∧ (scripted [.answer .ok] waiting).outstanding = some ⟨.write [], none⟩ ∧
      step (scripted [.answer .ok] waiting) = .next (answered .wake1 (.write []) .ok)) :=
  ⟨⟨inv_opening _ _ rfl, rfl, rfl, rfl, rfl⟩, ⟨inv_waking _ _ rfl, rfl, rfl, rfl, rfl⟩, inv_waiting _ _ rfl, rfl, rfl⟩

/-- V2's response, holds of exactly the reset delays. -/
theorem witness_CleanMeasureSucceeds :
    (scripted (.host (wr 0x00 1) :: cleanAttempt 800 1500 30 [0x03, 0x04, 0x02, 0x5B, 0x01, 0x13, 0xC1, 0xDE]) idle).Inv ∧
    idle.busy = false ∧ idle.wakeDelay.toNat ≤ 800 ∧ idle.writeModeDelay.toNat ≤ 1500 ∧ idle.readDelay.toNat ≤ 30 ∧
    crcValid good = true ∧ errorFlag idle.params.errOffset good = false :=
  ⟨inv_idle _ _ rfl, by decide, by decide, by decide, by decide, by decide +kernel, by decide⟩

theorem witness_RetriesExhaustAfterBound :
    (scripted (.host (wr 0x00 2) :: (failingOpens 300000 5 ++ failingOpen)) idle).Inv ∧ idle.busy = false ∧
    idle.retryDelay.toNat ≤ 300000 ∧ idle.maxRetries.toNat = 5 :=
  ⟨inv_idle _ _ rfl, by decide, by decide, by decide⟩

end Sys2Proof.Tests
end

section
/-!
The settled statements of the family 00_scope, and what they need: the reference CRC seen in a mirror, what the
completion of each transaction answers, and that the invariant outlives the turn taken off the script and passing time.
-/

namespace Sys2Proof.Machine

/-! ### The CRC and its reference (R140, R141, R147) -/

theorem reverse_xor {w : Nat} (x y : BitVec w) : (x ^^^ y).reverse = x.reverse ^^^ y.reverse := by
  refine BitVec.eq_of_getLsbD_eq fun i hi => ?_
  simp only [BitVec.getLsbD_reverse, BitVec.getLsbD_xor, BitVec.getMsbD_xor]

theorem reverse_shiftLeft {w : Nat} (x : BitVec w) (n : Nat) : (x <<< n).reverse = x.reverse >>> n := by
  refine BitVec.eq_of_getLsbD_eq fun i hi => ?_
  simp only [BitVec.getLsbD_reverse, BitVec.getMsbD_shiftLeft, BitVec.getLsbD_ushiftRight, Nat.add_comm]

/-- CRC_BIT is the reference's shift step seen in a mirror: 0xA001 is 0x8005 with its bits reversed. -/
theorem reverse_refBit (c : Half) : (refBit c).reverse = crcBit c.reverse := by
  have hpoly : (0x8005#16).reverse = 0xA001#16 := by decide
  have htop : c.reverse.getLsbD 0 = c.getLsbD 15 := BitVec.getLsbD_reverse
  unfold refBit crcBit
  rw [htop]
  split
  · rw [reverse_xor, reverse_shiftLeft, hpoly]
  · rw [reverse_shiftLeft]

theorem crcBits_eq_iterate (n : Nat) (c : Half) : crcBits n c = crcBit^[n] c := by
  induction n generalizing c with
  | zero => rfl
  | succ n ih => exact ih (crcBit c)

/-- The byte at the top of the register, its bits reversed, is in the mirror the byte zero-extended (R142). -/
theorem reverse_topByte (b : Byte) : (b.reverse ++ (0 : Byte) : BitVec (8 + 8)).reverse = b.setWidth 16 := by
  refine BitVec.eq_of_getLsbD_eq fun i hi => ?_
  rw [BitVec.getLsbD_reverse, BitVec.getMsbD_append, BitVec.getLsbD_setWidth]
  split
  · simp [BitVec.getLsbD_of_ge b i ‹_›]
  · simp [BitVec.getMsbD_reverse, hi]

theorem reverse_refByte (c : Half) (b : Byte) : (refByte c b).reverse = crcByte c.reverse b := by
  have hiter := (Function.Semiconj.iterate_right reverse_refBit 8).eq
  simp only [refByte, crcByte, crcBits_eq_iterate, List.foldl_const, List.length_range]
  rw [hiter, reverse_xor, reverse_topByte]

/-- Settles O32: reversal carries the reference's byte step to CRC_BYTE, so it carries the one fold to the other. -/
theorem crcAgreesWithReference : Obligations.CrcAgreesWithReference := by
  intro r
  have hstart : (0xFFFF#16).reverse = 0xFFFF#16 := by decide
  calc crcCompute r = r.covered.foldl crcByte (0xFFFF#16).reverse := by rw [hstart]; rfl
    _ = (r.covered.foldl refByte 0xFFFF#16).reverse :=
      List.foldl_hom BitVec.reverse fun c b => (reverse_refByte c b).symm

/-! ### The completions (R201) -/

/-- The completion answers a next state to every answer of a shape its request takes, and refuses every other. -/
def CompletesRequest (q : Request) (completion : Answer → State → Result) : Prop :=
  ∀ a s, (answerFits q a = true → ∃ t, completion a s = .next t) ∧
    (answerFits q a = false → completion a s = .refused .answerShape)

theorem completeOpen_completesRequest (p : Params) : CompletesRequest (openRequest p) completeOpen := by
  intro a s
  cases a <;> simp [completeOpen, openRequest, answerFits]

theorem completeWrite_completesRequest (bytes : List Byte) (e : ErrCode) (delay : State → Word) (p : Phase) :
    CompletesRequest (.write bytes) fun a s => completeWrite e (delay s) p a s := by
  intro a s
  cases a <;> simp [completeWrite, answerFits]

theorem completeWake_completesRequest : CompletesRequest (.write []) completeWake := by
  intro a s
  by_cases h : s.phase = .wake1
  · simpa only [completeWake, if_pos h] using
      completeWrite_completesRequest [] .wakeupError State.wakeDelay .waitWake a s
  · simpa only [completeWake, if_neg h] using
      completeWrite_completesRequest [] .wakeupError State.writeModeDelay .waitWriteMode a s

theorem completeCmd_completesRequest : CompletesRequest (.write commandBytes) completeCmd :=
  completeWrite_completesRequest _ _ State.readDelay _

theorem completeRead_completesRequest : CompletesRequest (.read responseLength) completeRead := by
  intro a s
  cases a with
  | ok => simp [completeRead, answerFits]
  | err => simp [completeRead, answerFits]
  | okBytes bs => cases h : Response.ofBytes bs <;> simp [completeRead, answerFits, h]

theorem completeClose_completesRequest : CompletesRequest .close completeClose := by
  intro a s
  cases a <;> simp [completeClose, answerFits]

/-! ### A transaction's step (R202) -/

section
variable {q : Request} {here : Bool} {issueStep : State → State} {completion : Answer → State → Result}
variable {s : State}

/-- In its phase a transaction's step answers a next state, when an answer held has a shape the request takes. -/
theorem CompletesRequest.transact_answers (hc : CompletesRequest q completion) (hh : here = true)
    (hfit : ∀ q' a, s.outstanding = some ⟨q', some a⟩ → answerFits q a = true) :
    ∃ t, transact here issueStep completion s = .next t := by
  rcases ho : s.outstanding with _ | ⟨q', _ | a⟩
  · exact ⟨_, transact_issue hh ho⟩
  · exact ⟨_, transact_wait hh ho⟩
  · rw [transact_complete hh ho]
    exact (hc a s.consume).1 (hfit q' a ho)

/-- No transaction's completion faults: what makes its step fault is its phase alone. -/
theorem CompletesRequest.transact_fault_iff (hc : CompletesRequest q completion) :
    (∃ f, transact here issueStep completion s = .fault f) ↔ here = false := by
  refine ⟨fun ⟨f, hf⟩ => ?_, fun h => ⟨_, transact_elsewhere h⟩⟩
  by_contra hh
  rw [Bool.not_eq_false] at hh
  rcases ho : s.outstanding with _ | ⟨q', _ | a⟩
  · cases (transact_issue hh ho).symm.trans hf
  · cases (transact_wait hh ho).symm.trans hf
  · rw [transact_complete hh ho] at hf
    obtain ⟨hnext, hrefused⟩ := hc a s.consume
    cases hfit : answerFits q a with
    | false => cases (hrefused hfit).symm.trans hf
    | true =>
      obtain ⟨t, ht⟩ := hnext hfit
      cases ht.symm.trans hf

end

/-! ### The bus instructions (R110, R202) -/

/-- A bus instruction is the transaction of the request it encodes, in the phases that execute it. -/
theorem exec_busInstr {i : Instr} (s : State) (hi : (busPhase i).isSome = true) :
    ∃ q issueStep completion, encode s.params i = .txn q ∧ CompletesRequest q completion ∧
      exec i s = transact (s.phase.instr == some i) issueStep completion s := by
  cases i <;> simp only [busPhase, Option.isSome_none, reduceCtorEq] at hi
  case busOpen =>
    exact ⟨_, _, _, rfl, completeOpen_completesRequest s.params,
      congrArg (transact · _ _ s) (by cases s.phase <;> rfl)⟩
  case busWake =>
    exact ⟨_, _, _, rfl, completeWake_completesRequest, congrArg (transact · _ _ s) (by cases s.phase <;> rfl)⟩
  case busCmd =>
    exact ⟨_, _, _, rfl, completeCmd_completesRequest, congrArg (transact · _ _ s) (by cases s.phase <;> rfl)⟩
  case busRead =>
    exact ⟨_, _, _, rfl, completeRead_completesRequest, congrArg (transact · _ _ s) (by cases s.phase <;> rfl)⟩
  case busClose =>
    exact ⟨_, _, _, rfl, completeClose_completesRequest, congrArg (transact · _ _ s) (by cases s.phase <;> rfl)⟩

/-- Settles O20: a bus instruction is a transaction, and a transaction's step faults exactly out of its phases. -/
theorem busInstructionOutOfPhase : Obligations.BusInstructionOutOfPhase := by
  intro s i hi
  obtain ⟨q, issueStep, completion, -, hc, hexec⟩ := exec_busInstr s hi
  rw [hexec, hc.transact_fault_iff, beq_eq_false_iff_ne]

theorem Phase.instr_isBus {p : Phase} {i : Instr} (h : p.instr = some i) : (busPhase i).isSome = true := by
  cases p <;> cases h <;> rfl

/-- The request a phase issues is the encoding of the instruction it executes. -/
theorem Phase.request_of_instr {ph : Phase} {i : Instr} {p : Params} {q : Request} (hi : ph.instr = some i)
    (hq : encode p i = .txn q) : ph.request p = some q := by
  cases ph <;> cases hi <;> cases hq <;> rfl

/-! ### The sequencer's turn -/

/-- The invariant does not speak of the turns to come. -/
theorem State.Inv.withScript {s : State} (h : s.Inv) (rest : List Turn) : State.Inv { s with script := rest } :=
  { h with }

/-- Time that passes starts no hold. -/
theorem State.Inv.elapse {s : State} (h : s.Inv) (us : Nat) : (s.elapse us).Inv :=
  { h with hold_phase := fun hh => h.hold_phase fun h0 => hh (by simp [State.elapse, h0]) }

/-- The answer held in a transaction's phase has a shape the phase's request takes (R201). -/
theorem State.Inv.answerFits_of_held {s : State} {q r : Request} {a : Answer} (h : s.Inv)
    (hr : s.phase.request s.params = some r) (ho : s.outstanding = some ⟨q, some a⟩) : answerFits r a = true := by
  obtain ⟨hq, hfit⟩ := h.port _ ho
  obtain rfl : r = q := Option.some.inj (hr.symm.trans hq)
  exact hfit a rfl

theorem attemptEnd_answers {s : State} (h : s.mode ≠ .check) : ∃ t, attemptEnd s = .next t := by
  unfold attemptEnd
  split
  case h_5 hm => exact absurd hm h
  all_goals exact ⟨_, rfl⟩

theorem internalStep_answers {s : State} (h : s.Inv) : ∃ t, internalStep s = .next t := by
  unfold internalStep
  split
  case h_5 hp => exact attemptEnd_answers fun hm => by simpa [hp] using h.check_phase hm
  all_goals exact ⟨_, rfl⟩

theorem sequencerTurn_answers {s : State} (h : s.Inv) : ∃ t, sequencerTurn s = .next t := by
  unfold sequencerTurn
  split
  case h_1 i hi =>
    obtain ⟨q, issueStep, completion, hq, hc, hexec⟩ := exec_busInstr s (Phase.instr_isBus hi)
    rw [hexec]
    exact hc.transact_answers (by simp [hi]) fun _ _ => h.answerFits_of_held (Phase.request_of_instr hi hq)
  case h_2 => exact internalStep_answers h

theorem unscriptedTurn_answers {s : State} (h : s.Inv) : ∃ t, unscriptedTurn s = .next t := by
  unfold unscriptedTurn
  split
  · exact sequencerTurn_answers (h.elapse _)
  · exact sequencerTurn_answers h

/-! ### The host's and the transport's turns -/

/-- A command word decoded and executed is the word dispatched (R220; log entry 9). -/
theorem exec_decodeCtrl (v : Word) (s : State) : exec (decodeCtrl v) s = dispatchCtrl v s := by
  unfold decodeCtrl dispatchCtrl
  repeat' split
  all_goals rfl

theorem dispatchCtrl_answers (v : Word) (s : State) : ∃ t, dispatchCtrl v s = .next t := by
  unfold dispatchCtrl
  repeat' split
  all_goals exact ⟨_, rfl⟩

theorem execRegRead_answers {off : Nat} (h : (regAt off).isSome = true) (s : State) :
    ∃ t, execRegRead off s = .next t := by
  obtain ⟨r, hr⟩ := Option.isSome_iff_exists.1 h
  simp [execRegRead, hr]

theorem execRegWrite_answers {off : Nat} (h : (regAt off).isSome = true) (v : Word) (s : State) :
    ∃ t, execRegWrite off v s = .next t := by
  obtain ⟨r, hr⟩ := Option.isSome_iff_exists.1 h
  cases r <;> simp [execRegWrite, hr, dispatchCtrl_answers]

theorem offsetError_eq_none_iff (off : Nat) : offsetError off = none ↔ (regAt off).isSome = true := by
  rw [regAt_isSome_iff]
  cases ha : offsetAligned off <;> cases hw : offsetInWindow off <;> simp [offsetError, ha, hw]

/-- An access that decodes keeps its instruction, and its offset is that of a register (R61, R62). -/
theorem decodeAccess_instr {w : AccessWidth} {off : Nat} {i j : Instr} (h : decodeAccess w off j = .instr i) :
    j = i ∧ (regAt off).isSome = true := by
  unfold decodeAccess at h
  split at h; · cases h
  split at h; · cases h
  exact ⟨Decoded.instr.inj h, (offsetError_eq_none_iff off).1 ‹_›⟩

theorem hostTurn_answers {a : HostAccess} {i : Instr} {s : State} (h : decode s.params (fetchHost a) = .instr i) :
    ∃ t, hostTurn a s = .next t := by
  have hexec : hostTurn a s = exec i s := by simp only [hostTurn, h]
  rw [hexec]
  unfold fetchHost at h
  split at h
  case h_1 v =>
    obtain rfl : decodeCtrl v = i := Decoded.instr.inj h
    rw [exec_decodeCtrl]
    exact dispatchCtrl_answers v s
  case h_2 =>
    cases a with
    | read w off =>
      obtain ⟨rfl, hreg⟩ := decodeAccess_instr h
      exact execRegRead_answers hreg s
    | write w off v =>
      obtain ⟨rfl, hreg⟩ := decodeAccess_instr h
      exact execRegWrite_answers hreg v s

theorem hostTurn_refuses {a : HostAccess} {e : DecodeError} {s : State}
    (h : decode s.params (fetchHost a) = .reject e) : hostTurn a s = .refused (.undefinedAccess e) := by
  simp only [hostTurn, h]

theorem State.deliver_of_fits {q : Request} {a : Answer} {s : State} (ho : s.outstanding = some ⟨q, none⟩)
    (hf : answerFits q a = true) : s.deliver a = .next { s with outstanding := some ⟨q, some a⟩ } := by
  simp only [State.deliver, ho, hf, if_true]

/-- A delivery the transport may not make is refused (R201; log entry 7). -/
theorem State.deliver_answers_or_refuses (a : Answer) (s : State) :
    (∃ t, s.deliver a = .next t) ∨
      (¬ ∃ q, s.outstanding = some ⟨q, none⟩ ∧ answerFits q a = true) ∧ ∃ r, s.deliver a = .refused r := by
  rcases ho : s.outstanding with _ | ⟨q, _ | b⟩
  · exact .inr ⟨by simp, .unsolicitedAnswer, by simp [State.deliver, ho]⟩
  · cases hf : answerFits q a with
    | false => exact .inr ⟨by simp [hf], .answerShape, by simp [State.deliver, ho, hf]⟩
    | true => exact .inl ⟨_, State.deliver_of_fits ho hf⟩
  · exact .inr ⟨by simp, .unsolicitedAnswer, by simp [State.deliver, ho]⟩

/-! ### The step -/

/-- From a state of the invariant a step answers a next state, but for a host access that does not decode and an answer
that fits no waiting request: those are refused. -/
theorem step_answers_or_refuses {s : State} (h : s.Inv) :
    (∃ t, step s = .next t) ∨
    (∃ a rest e, s.script = .host a :: rest ∧ decode s.params (fetchHost a) = .reject e ∧
      step s = .refused (.undefinedAccess e)) ∨
    (∃ a rest r, s.script = .answer a :: rest ∧
      (¬ ∃ q, s.outstanding = some ⟨q, none⟩ ∧ answerFits q a = true) ∧ step s = .refused r) := by
  rcases hs : s.script with _ | ⟨turn, rest⟩
  · have hstep : step s = unscriptedTurn s := by simp only [step, hs]
    exact .inl (hstep ▸ unscriptedTurn_answers h)
  have hstep : step s = takeTurn turn { s with script := rest } := by simp only [step, hs]
  rw [hstep]
  cases turn with
  | host a =>
    cases hd : decode s.params (fetchHost a) with
    | instr i => exact .inl (hostTurn_answers hd)
    | reject e => exact .inr (.inl ⟨a, rest, e, rfl, hd, hostTurn_refuses hd⟩)
  | sequencer => exact .inl (sequencerTurn_answers (h.withScript rest))
  | answer a =>
    obtain hnext | ⟨hfit, r, hr⟩ := State.deliver_answers_or_refuses a { s with script := rest }
    · exact .inl hnext
    · exact .inr (.inr ⟨a, rest, r, rfl, hfit, hr⟩)
  | lateAnswer a => exact .inl ⟨_, rfl⟩
  | elapse us => exact .inl ⟨_, rfl⟩
  | reset => exact .inl ⟨_, rfl⟩

/-- Settles O48: a step of such a state answers a next state or refuses the turn. -/
theorem stepNeverFaults : Obligations.StepNeverFaults := by
  intro s h
  obtain ⟨t, ht⟩ | ⟨a, rest, e, -, -, hr⟩ | ⟨a, rest, r, -, -, hr⟩ := step_answers_or_refuses h
  · rw [ht]; trivial
  · rw [hr]; trivial
  · rw [hr]; trivial

/-- Settles O49: the hypotheses shut out the two turns that a step of such a state refuses. -/
theorem stepAnswersNextState : Obligations.StepAnswersNextState := by
  intro s h hhost hanswer
  obtain hnext | ⟨a, rest, e, hs, hd, -⟩ | ⟨a, rest, r, hs, hfit, -⟩ := step_answers_or_refuses h
  · exact hnext
  · obtain ⟨i, hi⟩ := hhost a rest hs
    cases hd.symm.trans hi
  · exact absurd (hanswer a rest hs) hfit

end Sys2Proof.Machine
end

section
/-!
The settled statements of the family 10_state, and what they need: that each agent's turn keeps the invariant, what a
read and a write of a register do, and what each turn does to the phase and to the result registers.
-/

namespace Sys2Proof.Machine

/-! ### VALIDATE's registers (R120, R165, R166) -/

/-- The index register holds the index of the humidity and the temperature registers, and the CRC register's halves
agree: what the invariant asks of a reading (R24, R164). -/
def State.ReadingConsistent (s : State) : Prop :=
  s.crcCalc = s.crcRecv ∧ s.diE6 = BitVec.ofInt 64 (discomfort s.temperature.toInt (s.humidity.toNat : Int))

/-- The two checks write `cur_err`, the CRC unit's registers and the result registers, and nothing else. -/
theorem State.runChecks_frame (s : State) :
    ∃ hum temp di c r acc e n, s.runChecks = { s with
      humidity := hum, temperature := temp, diE6 := di, crcCalc := c, crcRecv := r, crcAcc := acc, curErr := e
      draws := n } := by
  obtain ⟨-, h⟩ | ⟨-, -, h⟩ | ⟨-, -, h⟩ := s.runChecks_cases
  all_goals
    simp only [h, State.setCurErr, State.decodeResult, State.writeCrc, State.accumulate]
    exact ⟨_, _, _, _, _, _, _, _, rfl⟩

theorem State.runChecks_crcCalc (s : State) : s.runChecks.crcCalc = crcCompute s.resp := by
  obtain ⟨-, h⟩ | ⟨-, -, h⟩ | ⟨-, -, h⟩ := s.runChecks_cases <;> rw [h] <;> rfl

theorem State.runChecks_crcRecv (s : State) : s.runChecks.crcRecv = s.resp.trailer := by
  obtain ⟨-, h⟩ | ⟨-, -, h⟩ | ⟨-, -, h⟩ := s.runChecks_cases <;> rw [h] <;> rfl

theorem State.runChecks_curErr_ne_retriesExhausted (s : State) : s.runChecks.curErr ≠ .retriesExhausted := by
  obtain ⟨-, h⟩ | ⟨-, -, h⟩ | ⟨-, -, h⟩ := s.runChecks_cases <;> simp [h]

/-- A buffer that passes both checks leaves a consistent reading. -/
theorem State.runChecks_readingConsistent {s : State} (he : s.runChecks.curErr = .noError) :
    s.runChecks.ReadingConsistent := by
  obtain ⟨-, h⟩ | ⟨-, -, h⟩ | ⟨hcrc, -, h⟩ := s.runChecks_cases
  · simp [h] at he
  · simp [h] at he
  · rw [crcValid_iff] at hcrc
    have ht := toInt_temperature s.params.tempEncoding s.resp.tempRaw
    rw [h]
    exact ⟨hcrc.symm, by simp [-BitVec.toInt_ofInt, ht]⟩

/-! ### What the invariant says of a phase -/

section
variable {s t : State}

theorem State.attemptsToCome_eq (s : State) :
    s.attemptsToCome = if s.phase = .retryWait ∨ s.phase = .openBus ∧ s.outstanding = none then 1 else 0 := by
  unfold State.attemptsToCome
  split <;> simp_all

theorem State.hasReading_iff (s : State) :
    s.hasReading = true ↔ s.ok = true ∨ s.phase = .attemptEnd ∧ s.curErr = .noError := by
  simp [State.hasReading]

/-- A state with no transaction begun and no hold pending. -/
structure State.AtRest (s : State) : Prop where
  handle : s.handleOpen = false
  port : s.outstanding = none
  hold : s.holdUs = 0
  cur_attempt : s.curErr ≠ .retriesExhausted
  last_attempt : s.lastErr ≠ .retriesExhausted
  attempts_max : s.attempts.toNat ≤ 256

theorem State.Inv.idle_of_not_busy (h : s.Inv) (hb : s.busy = false) : s.phase = .idle := by
  by_contra hp
  simp [h.busy_iff.2 hp] at hb

theorem State.Inv.outstanding_eq_none (h : s.Inv) (hr : s.phase.request s.params = none) : s.outstanding = none := by
  rcases ho : s.outstanding with _ | q
  · rfl
  · exact absurd (h.port q ho).1 (by simp [hr])

theorem State.Inv.holdUs_eq_zero (h : s.Inv) (hd : s.phase.isDelay = false) : s.holdUs = 0 := by
  by_contra h0
  simp [h.hold_phase h0] at hd

theorem State.Inv.ok_eq_false_of_busy (h : s.Inv) (hb : s.busy = true) : s.ok = false := by
  by_contra hok
  simp [h.done_idle (h.ok_done (by simpa using hok))] at hb

theorem State.Inv.atRest (h : s.Inv) (hp : s.phase ∈ [.idle, .validate, .attemptEnd]) : s.AtRest := by
  obtain ⟨hown, hreq, hdelay⟩ :
      s.phase.ownsHandle = false ∧ s.phase.request s.params = none ∧ s.phase.isDelay = false := by
    simp only [List.mem_cons, List.not_mem_nil, or_false] at hp
    rcases hp with hp | hp | hp <;> simp [hp, Phase.ownsHandle, Phase.request, Phase.isDelay]
  exact ⟨h.handle.trans hown, h.outstanding_eq_none hreq, h.holdUs_eq_zero hdelay, h.cur_attempt, h.last_attempt,
    h.attempts_max⟩

/-! ### The host's turn keeps the invariant -/

/-- An accepted MEASURE or MEASURE_RETRY is at OPEN, its first attempt to come (R222, R223, R228). -/
theorem State.AtRest.accept {m : Mode} (h : s.AtRest) (hm : m ≠ .check) : (s.accept m).Inv := by
  have hp : m.firstPhase = .openBus := by
    cases m with
    | check => exact absurd rfl hm
    | single | retry => rfl
  constructor
  case attempts_limit =>
    intro _
    cases m with
    | check => exact absurd rfl hm
    | single | retry => simp [hp, h.port, State.attemptsToCome_eq, State.attemptLimit]
  all_goals
    simp [hp, hm, h.handle, h.port, h.hold, h.cur_attempt, State.hasReading, Phase.ownsHandle, Phase.beforeError]

/-- An accepted CHECK is at VALIDATE, with no attempt to come (R224). -/
theorem State.AtRest.acceptCheck (h : s.AtRest) : ((s.accept .check).setCurErr .noError).Inv := by
  constructor <;>
    simp [Mode.firstPhase, h.handle, h.port, h.hold, State.attemptLimit, State.attemptsToCome, State.hasReading,
      Phase.ownsHandle]

theorem HostEffect.keeps_inv (he : HostEffect s t) (h : s.Inv) : t.Inv := by
  cases he with
  | nothing => exact h
  | misuse => exact { h with }
  | acceptAttempt m hb hm => exact (h.atRest (by simp [h.idle_of_not_busy hb])).accept hm
  | acceptCheck hb => exact (h.atRest (by simp [h.idle_of_not_busy hb])).acceptCheck
  | setBound v hb => exact { h with attempts_limit := fun hb' => by simp [hb] at hb' }
  | setWakeDelay v hb => exact { h with }
  | setWriteModeDelay v hb => exact { h with }
  | setReadDelay v hb => exact { h with }
  | setRetryDelay v hb => exact { h with }
  | setResp r hb => exact { h with }
  | read off v => exact { h with }

/-! ### The sequencer's turn keeps the invariant -/

/-- What a command fixes when it is accepted, and its count of attempts: a move to a later phase keeps them. -/
def State.account (s : State) : (Bool × Bool × Bool × ErrCode × ErrCode) × Mode × Byte × Half :=
  ((s.busy, s.done, s.ok, s.err, s.lastErr), s.mode, s.maxRetries, s.attempts)

theorem State.runChecks_account (s : State) : s.runChecks.account = s.account := by
  obtain ⟨_, _, _, _, _, _, _, _, h⟩ := s.runChecks_frame
  rw [h]
  rfl

/-- A move within an attempt: with no transaction outstanding, `t` goes on from `s` to a phase after OPEN, its handle,
hold, error and reading those that belong to the phase. -/
structure State.Moves (s t : State) : Prop where
  running : s.phase ≠ .idle
  mode : s.mode ≠ .check
  account : t.account = s.account
  port : t.outstanding = none
  phase : t.phase ∉ [.idle, .openBus, .retryWait]
  handle : t.handleOpen = t.phase.ownsHandle
  hold : t.holdUs ≠ 0 → t.phase.isDelay = true
  cur_attempt : t.curErr ≠ .retriesExhausted
  no_error_yet : t.phase.beforeError = true → t.curErr = .noError
  reading : t.phase = .attemptEnd → t.curErr = .noError → t.ReadingConsistent

theorem State.Inv.move (h : s.Inv) (hmv : s.Moves t) : t.Inv := by
  obtain ⟨hs, hm, hc, ho, hp, hh, hd, hx, he, hr⟩ := hmv
  simp only [State.account, Prod.mk.injEq] at hc
  obtain ⟨⟨hbusy, hdone, hok, herr, hlast⟩, hmode, hmax, hatt⟩ := hc
  simp only [List.mem_cons, List.not_mem_nil, or_false, not_or] at hp
  obtain ⟨hidle, hopen, hwait⟩ := hp
  have hb := h.busy_iff.2 hs
  have hlim : t.attemptsToCome = 0 := by simp [State.attemptsToCome_eq, hopen, hwait]
  refine
    { busy_iff := by simp [hbusy, hb, hidle]
      done_idle := by rw [hdone, hbusy]; exact h.done_idle
      ok_done := by rw [hdone, hok]; exact h.ok_done
      err_done := by rw [hdone, herr]; exact h.err_done
      ok_iff := by rw [hdone, hok, herr]; exact h.ok_iff
      handle := hh
      port := by simp [ho]
      check_phase := by simp [hmode, hm]
      retry_phase := by simp [hwait]
      cur_attempt := hx
      last_attempt := by rw [hlast]; exact h.last_attempt
      no_error_yet := he
      open_error := by simp [hopen]
      retry_error := by simp [hwait]
      attempts_limit := ?limit
      attempts_max := by rw [hatt]; exact h.attempts_max
      hold_phase := hd
      reading := ?reading }
  case limit =>
    have := h.attempts_limit hb
    simp only [State.attemptLimit, hlim, hmode, hmax, hatt] at this ⊢
    omega
  case reading =>
    intro hread
    obtain hok' | ⟨hend, hnone⟩ := t.hasReading_iff.1 hread
    · simp [hok, h.ok_eq_false_of_busy hb] at hok'
    · exact hr hend hnone

/-- The completion of a command from a state at rest (R22 to R25). -/
theorem State.AtRest.finish (h : s.AtRest) {o : Bool} {e : ErrCode} (hoe : o = true ↔ e = .noError)
    (hr : o = true → s.ReadingConsistent) : (s.finish o e).Inv := by
  constructor
  case reading => exact fun hread => hr (by simpa [State.hasReading_iff] using hread)
  all_goals
    simp [h.handle, h.port, h.hold, h.cur_attempt, h.last_attempt, h.attempts_max, hoe, Phase.ownsHandle,
      Phase.beforeError]

theorem State.AtRest.runChecks (h : s.AtRest) : s.runChecks.AtRest := by
  have hx := s.runChecks_curErr_ne_retriesExhausted
  obtain ⟨_, _, _, _, _, _, _, _, hf⟩ := s.runChecks_frame
  rw [hf] at hx ⊢
  exact { h with cur_attempt := hx }

theorem State.AtRest.reportFailure (h : s.AtRest) : s.reportFailure.AtRest :=
  { h with last_attempt := h.cur_attempt }

theorem State.Inv.reportFailure (h : s.Inv) : s.reportFailure.Inv := { h with last_attempt := h.cur_attempt }

/-- CHECK's one step (R224). -/
theorem State.AtRest.completeCheck (h : s.AtRest) : s.runChecks.completeCheck.Inv := by
  have hc := h.runChecks
  have hl : State.AtRest { s.runChecks with lastErr := s.runChecks.curErr } :=
    { hc with last_attempt := hc.cur_attempt }
  exact hl.finish beq_iff_eq fun he => State.runChecks_readingConsistent (beq_iff_eq.1 he)

/-- A CHECK is in no phase of an attempt (R224). -/
theorem State.Inv.mode_ne_check (h : s.Inv) (hp : s.phase ∉ [.idle, .validate]) : s.mode ≠ .check := fun hm =>
  hp (by simpa using h.check_phase hm)

/-- OPEN's issue counts the attempt that was to come (R41, R111). -/
theorem State.Inv.beginAttempt (h : s.Inv) (hp : s.phase = .openBus) (ho : s.outstanding = none) :
    s.beginAttempt.Inv := by
  have hm := h.mode_ne_check (by simp [hp])
  have hlim := h.attempts_limit (h.busy_iff.2 (by simp [hp]))
  have hmax : s.attemptLimit ≤ 256 := by
    have := s.maxRetries.isLt
    cases hm' : s.mode <;> simp only [State.attemptLimit, hm'] <;> omega
  simp only [State.attemptsToCome, hp, ho] at hlim
  have hcount : s.beginAttempt.attempts.toNat = s.attempts.toNat + 1 := by
    rw [State.beginAttempt_attempts, BitVec.toNat_add]
    exact Nat.mod_eq_of_lt (by simp; omega)
  exact { h with
    port := by simp [hp, Phase.request, openRequest]
    cur_attempt := by simp
    no_error_yet := fun _ => rfl
    open_error := fun _ _ => rfl
    retry_error := by simp [hp]
    attempts_limit := fun _ => by
      have hcome : s.beginAttempt.attemptsToCome = 0 := by simp [State.attemptsToCome_eq, hp]
      rw [hcount, hcome]
      exact hlim
    attempts_max := by omega
    reading := by simpa [State.hasReading, hp] using h.reading }

/-- Another phase's issue leaves the attempt as it is (R202). -/
theorem State.Inv.issue {q : Request} (h : s.Inv) (hp : s.phase ≠ .openBus)
    (hq : s.phase.request s.params = some q) : (s.issue q).Inv :=
  { h with
    port := by simpa using hq
    open_error := fun h' => absurd h' hp
    attempts_limit := fun hb => by
      simpa [State.attemptsToCome_eq, State.attemptLimit, hp] using h.attempts_limit hb }

/-- A delivered answer waits for its request's completion (R202). -/
theorem State.Inv.deliver {q : Request} {a : Answer} (h : s.Inv) (ho : s.outstanding = some ⟨q, none⟩)
    (hf : answerFits q a = true) : State.Inv { s with outstanding := some ⟨q, some a⟩ } :=
  { h with
    port := by simpa [hf] using (h.port _ ho).1
    open_error := fun hp _ => h.open_error hp (by simp [ho])
    attempts_limit := fun hb => by
      simpa [State.attemptsToCome_eq, State.attemptLimit, ho] using h.attempts_limit hb }

/-- A failed attempt that may be followed by another waits for it (R183). -/
theorem State.Inv.startRetry (h : s.Inv) (hp : s.phase = .attemptEnd) (hm : s.mode = .retry)
    (he : s.curErr ≠ .noError) (hb : s.attempts.toNat ≤ s.maxRetries.toNat) (d : Word) :
    (s.hold d .retryWait).Inv := by
  have hrest := h.atRest (by simp [hp])
  exact { h with
    busy_iff := by simp [h.busy_iff, hp]
    handle := hrest.handle
    port := by simp [hrest.port]
    check_phase := by simp [hm]
    retry_phase := fun _ => hm
    no_error_yet := by simp [Phase.beforeError]
    open_error := by simp
    retry_error := fun _ => he
    attempts_limit := fun _ => by simpa [State.attemptsToCome, State.attemptLimit, hm] using hb
    hold_phase := fun _ => rfl
    reading := fun hr => h.reading (s.hasReading_iff.2 (.inl (by simpa [State.hasReading_iff] using hr))) }

/-- The next attempt of a retry begins at OPEN (R184). -/
theorem State.Inv.retryAttempt (h : s.Inv) (hp : s.phase = .retryWait) (h0 : s.holdUs = 0) :
    (s.advance .openBus).Inv := by
  have ho := h.outstanding_eq_none (by simp [hp, Phase.request])
  have hm := h.retry_phase hp
  exact { h with
    busy_iff := by simp [h.busy_iff, hp]
    handle := h.handle.trans (by rw [hp]; rfl)
    port := by simp [ho]
    check_phase := by simp [hm]
    retry_phase := by simp
    no_error_yet := by simp [Phase.beforeError]
    open_error := by simp [ho]
    retry_error := by simp
    attempts_limit := fun hb => by
      simpa [State.attemptsToCome, State.attemptLimit, hp, ho, hm] using h.attempts_limit hb
    hold_phase := by simp [h0]
    reading := fun hr => h.reading (s.hasReading_iff.2 (.inl (by simpa [State.hasReading_iff] using hr))) }

theorem State.Inv.acquire (h : s.Inv) (hp : s.phase = .openBus) (ho : s.outstanding ≠ none) :
    s.consume.acquire.Inv :=
  h.move
    { running := by simp [hp]
      mode := h.mode_ne_check (by simp [hp])
      account := rfl
      port := rfl
      phase := by simp
      handle := rfl
      hold := fun h0 => absurd (h.holdUs_eq_zero (by rw [hp]; rfl)) h0
      cur_attempt := h.cur_attempt
      no_error_yet := fun _ => h.open_error hp ho
      reading := by simp }

/-- The error of a transaction aborts the attempt (R123, R241). -/
theorem State.Inv.raiseError {e : ErrCode} (h : s.Inv) (hp : s.phase ∈ [.openBus, .wake1, .wake2, .sendCmd, .read])
    (he : e ≠ .noError) (hx : e ≠ .retriesExhausted) : (s.consume.raiseError e).Inv := by
  have hphase : ∀ p ∈ [Phase.openBus, .wake1, .wake2, .sendCmd, .read],
      p ∉ [.idle, .validate] ∧ p.isDelay = false ∧ p.errorTarget ∉ [.idle, .openBus, .retryWait] ∧
        p.ownsHandle = p.errorTarget.ownsHandle ∧ p.errorTarget.beforeError = false := by decide
  obtain ⟨hs, hdelay, ht, hown, hbefore⟩ := hphase _ hp
  exact h.move
    { running := fun hidle => hs (by simp [hidle])
      mode := h.mode_ne_check hs
      account := rfl
      port := rfl
      phase := ht
      handle := h.handle.trans hown
      hold := fun h0 => absurd (h.holdUs_eq_zero hdelay) h0
      cur_attempt := hx
      no_error_yet := fun hb => absurd (hbefore.symm.trans hb) (by decide)
      reading := fun _ he' => absurd he' he }

/-- The moves of an attempt in which nothing has failed, from the first wake to CLOSE (R112 to R118). -/
def Phase.goesOnTo : List (Phase × Phase) :=
  [(.wake1, .waitWake), (.waitWake, .wake2), (.wake2, .waitWriteMode), (.waitWriteMode, .sendCmd), (.sendCmd, .waitRead),
    (.waitRead, .read), (.read, .close)]

theorem State.Inv.goOn (h : s.Inv) (hp : (s.phase, t.phase) ∈ Phase.goesOnTo) (hc : t.account = s.account)
    (ho : t.outstanding = none) (hh : t.handleOpen = s.handleOpen) (he : t.curErr = s.curErr)
    (hd : t.holdUs ≠ 0 → t.phase.isDelay = true) : t.Inv := by
  have hphase : ∀ c ∈ Phase.goesOnTo,
      c.1 ∉ [.idle, .validate] ∧ c.1.beforeError = true ∧ c.2 ∉ [.idle, .openBus, .retryWait] ∧ c.2 ≠ .attemptEnd ∧
        c.1.ownsHandle = c.2.ownsHandle := by decide
  obtain ⟨hs, hbefore, ht, hend, hown⟩ := hphase _ hp
  exact h.move
    { running := fun hidle => hs (by simp [hidle])
      mode := h.mode_ne_check hs
      account := hc
      port := ho
      phase := ht
      handle := hh.trans (h.handle.trans hown)
      hold := hd
      cur_attempt := he ▸ h.cur_attempt
      no_error_yet := fun _ => he.trans (h.no_error_yet hbefore)
      reading := fun hend' => absurd hend' hend }

/-- CLOSE is left for VALIDATE by a good read, for ATTEMPT_END by a failed attempt (R119). -/
theorem State.Inv.release (h : s.Inv) (hp : s.phase = .close) : s.consume.release.Inv := by
  have hafter : ∀ e : ErrCode, e.afterClose ∉ [.idle, .openBus, .retryWait] ∧ e.afterClose.ownsHandle = false ∧
      (e.afterClose.beforeError = true → e = .noError) ∧ (e.afterClose = .attemptEnd → e ≠ .noError) := by
    intro e
    cases e <;> decide
  obtain ⟨ht, hown, hbefore, hend⟩ := hafter s.curErr
  exact h.move
    { running := by simp [hp]
      mode := h.mode_ne_check (by simp [hp])
      account := rfl
      port := rfl
      phase := ht
      handle := hown.symm
      hold := fun h0 => absurd (h.holdUs_eq_zero (by rw [hp]; rfl)) h0
      cur_attempt := h.cur_attempt
      no_error_yet := hbefore
      reading := fun hp' he => absurd he (hend hp') }

/-- VALIDATE's step outside CHECK (R120). -/
theorem State.Inv.validate (h : s.Inv) (hp : s.phase = .validate) (hm : s.mode ≠ .check) :
    (s.runChecks.advance .attemptEnd).Inv := by
  have hrest := (h.atRest (by simp [hp])).runChecks
  exact h.move
    { running := by simp [hp]
      mode := hm
      account := s.runChecks_account
      port := hrest.port
      phase := by simp
      handle := hrest.handle
      hold := fun h0 => absurd hrest.hold h0
      cur_attempt := hrest.cur_attempt
      no_error_yet := by simp [Phase.beforeError]
      reading := fun _ he => State.runChecks_readingConsistent he }

/-- A delay phase is left, with its hold over, for the phase after it (R113, R115, R117, R184). -/
theorem State.Inv.leaveDelay {p : Phase} (h : s.Inv)
    (hp : (s.phase, p) ∈ [(Phase.waitWake, Phase.wake2), (.waitWriteMode, .sendCmd), (.waitRead, .read),
      (.retryWait, .openBus)]) (h0 : s.holdUs = 0) : (s.advance p).Inv := by
  have hphase : ∀ c ∈ [(Phase.waitWake, Phase.wake2), (.waitWriteMode, .sendCmd), (.waitRead, .read),
      (.retryWait, .openBus)], c = (.retryWait, .openBus) ∨ c ∈ Phase.goesOnTo ∧ c.1.request s.params = none := by
    simp [Phase.goesOnTo, Phase.request]
  obtain hretry | ⟨hgo, hreq⟩ := hphase _ hp
  · obtain ⟨hwait, rfl⟩ := Prod.mk.inj hretry
    exact h.retryAttempt hwait h0
  · exact h.goOn hgo rfl (h.outstanding_eq_none hreq) rfl rfl fun hd => absurd h0 hd

theorem SequencerEffect.keeps_inv (he : SequencerEffect s t) (h : s.Inv) : t.Inv := by
  cases he with
  | hold => exact h
  | issueOpen hp ho => exact h.beginAttempt hp ho
  | issue q hp hq ho => exact h.issue hp hq
  | opened q hp ho => exact h.acquire hp (by simp [ho])
  | openFailed q hp ho => exact h.raiseError (by simp [hp]) (by decide) (by decide)
  | written q d p hp ho =>
    have hphase : ∀ c ∈ [(Phase.wake1, Phase.waitWake), (.wake2, .waitWriteMode), (.sendCmd, .waitRead)],
        c ∈ Phase.goesOnTo ∧ c.2.isDelay = true := by decide
    obtain ⟨hgo, hdelay⟩ := hphase _ hp
    exact h.goOn hgo rfl rfl rfl rfl fun _ => hdelay
  | stepFailed q a e hp he ho =>
    have herr : ∀ e ∈ [ErrCode.wakeupError, .commandError, .readError], e ≠ .noError ∧ e ≠ .retriesExhausted := by decide
    obtain ⟨h1, h2⟩ := herr e he
    exact h.raiseError (List.mem_cons_of_mem _ hp) h1 h2
  | readDone q bs r hp hr ho =>
    exact h.goOn (by simp [hp, Phase.goesOnTo]) rfl rfl rfl rfl
      fun h0 => absurd (h.holdUs_eq_zero (by rw [hp]; rfl)) h0
  | closed q hp ho => exact h.release hp
  | closeFailed q hp ho =>
    have hlog : (s.setCloseFail.emit (.closeFailed s.attempts)).Inv := { h with }
    exact hlog.release hp
  | delayOver p hp h0 => exact h.leaveDelay hp h0
  | validated hp hm => exact h.validate hp hm
  | checked hp hm => exact (h.atRest (by simp [hp])).completeCheck
  | succeeded hp hm he =>
    exact (h.atRest (by simp [hp])).finish (by simp) fun _ => h.reading (s.hasReading_iff.2 (.inr ⟨hp, he⟩))
  | failedSingle hp hm he => exact (h.atRest (by simp [hp])).reportFailure.finish (by simp [he]) (by simp)
  | exhausted hp hm he hb => exact (h.atRest (by simp [hp])).reportFailure.finish (by simp) (by simp)
  | retried hp hm he hb => exact h.reportFailure.startRetry hp hm he hb _

/-! ### Every step keeps the invariant -/

/-- The invariant after a reset, whatever the state before it (R271). -/
theorem State.resetBlock_inv (s : State) : s.resetBlock.Inv := by
  constructor <;> simp [Phase.ownsHandle, Phase.beforeError, State.hasReading]

/-- Settles O47: the turn is taken on a state of the invariant, and each effect of a turn keeps it. -/
theorem stepKeepsInvariant : Obligations.StepKeepsInvariant := by
  intro s t h hstep
  cases step_effect hstep with
  | host a rest _ _ he => exact he.keeps_inv (h.withScript rest)
  | sequencer rest _ _ he => exact he.keeps_inv (h.withScript rest)
  | answer a q rest _ ho hf => exact (h.withScript rest).deliver ho hf
  | lateAnswer a rest _ => exact h.withScript rest
  | elapse us rest _ => exact (h.withScript rest).elapse us
  | reset rest _ => exact State.resetBlock_inv _
  | unscripted _ _ he =>
    split at he
    · exact he.keeps_inv (h.elapse _)
    · exact he.keeps_inv h

end
/-! ### Delay phases (R113, R115, R117, R184) -/

theorem sequencerTurn_delay {s : State} {p : Phase}
    (h : (s.phase, p) ∈ [(Phase.waitWake, Phase.wake2), (.waitWriteMode, .sendCmd), (.waitRead, .read),
      (.retryWait, .openBus)]) : sequencerTurn s = .next (s.leaveDelay (State.advance p)) := by
  simp only [List.mem_cons, Prod.mk.injEq, List.not_mem_nil, or_false] at h
  rcases h with ⟨hp, rfl⟩ | ⟨hp, rfl⟩ | ⟨hp, rfl⟩ | ⟨hp, rfl⟩ <;>
    simp [sequencerTurn, internalStep, hp, Phase.instr, State.leaveDelay, State.retryAttempt]

/-- Settles O22: the sequencer's turn in a delay phase is the one conditional step out of it. -/
theorem delayPhaseSteps : Obligations.DelayPhaseSteps := by
  intro s c hc hp
  have hturn : sequencerTurn s = .next (s.leaveDelay (State.advance c.2)) := sequencerTurn_delay (hp ▸ hc)
  refine ⟨fun h0 => ?_, fun h0 => ?_⟩
  · rw [hturn, State.leaveDelay_over _ h0]; rfl
  · rw [hturn, State.leaveDelay_holding _ h0]

/-! ### Reading a register (R64, R230) -/

theorem readsAs_of_regAt {s : State} {off : Nat} {r : Reg} {v : Word} (hr : regAt off = some r)
    (hv : s.readReg r = v) : ReadsAs s off v :=
  ⟨s.draws + 1, by simp [exec, execRegRead, hr, hv]⟩

/-- Settles O37: each offset reads as its register, and the four result registers by the flag OK. -/
theorem registerReads : Obligations.RegisterReads := by
  intro s
  refine ⟨readsAs_of_regAt rfl rfl, readsAs_of_regAt rfl rfl, readsAs_of_regAt rfl rfl, readsAs_of_regAt rfl rfl,
    readsAs_of_regAt rfl rfl, readsAs_of_regAt rfl rfl, readsAs_of_regAt rfl rfl, readsAs_of_regAt rfl rfl,
    readsAs_of_regAt rfl rfl, fun hok => ?_, fun hok => ?_, readsAs_of_regAt rfl rfl, readsAs_of_regAt rfl rfl,
    readsAs_of_regAt rfl rfl⟩
  · exact ⟨readsAs_of_regAt rfl (if_pos hok), readsAs_of_regAt rfl (if_pos hok), readsAs_of_regAt rfl (if_pos hok),
      readsAs_of_regAt rfl (if_pos hok)⟩
  · have hfree : s.readReg .humidity = ((Config.draw s.draws).extractLsb' 0 16).setWidth 32 := by
      simp [State.readReg, hok]
    have hwidth := ((Config.draw s.draws).extractLsb' 0 16).isLt
    exact ⟨⟨_, readsAs_of_regAt rfl hfree, by rw [BitVec.toNat_setWidth]; omega⟩, ⟨_, readsAs_of_regAt rfl rfl⟩,
      ⟨_, readsAs_of_regAt rfl rfl⟩, ⟨_, readsAs_of_regAt rfl rfl⟩⟩

/-! ### STATUS (R21, R27, R240) -/

theorem extractLsb'_eq_of_toNat {w n start : Nat} {v : BitVec w} {f : BitVec n}
    (h : v.toNat / 2 ^ start % 2 ^ n = f.toNat) : v.extractLsb' start n = f :=
  BitVec.eq_of_toNat_eq (by rw [BitVec.extractLsb'_toNat, Nat.shiftRight_eq_div_pow, h])

theorem getLsbD_eq_of_toNat {w i : Nat} {v : BitVec w} {b : Bool} (h : v.toNat / 2 ^ i % 2 = b.toNat) :
    v.getLsbD i = b := by
  rw [BitVec.getLsbD, Nat.testBit_eq_decide_div_mod_eq, h]
  cases b <;> rfl

/-- The fields of STATUS at their bits, its reserved bits 0 (R21). -/
theorem State.statusWord_fields (s : State) :
    s.statusWord.getLsbD 0 = s.busy ∧ s.statusWord.getLsbD 1 = s.done ∧ s.statusWord.getLsbD 2 = s.ok ∧
    s.statusWord.extractLsb' 3 4 = s.err.code ∧ s.statusWord.getLsbD 7 = s.closeFail ∧
    s.statusWord.getLsbD 8 = s.cmdErr ∧ s.statusWord.extractLsb' 9 3 = 0 ∧
    s.statusWord.extractLsb' 12 4 = s.phase.code ∧ s.statusWord.extractLsb' 16 4 = s.lastErr.code ∧
    s.statusWord.extractLsb' 20 12 = 0 := by
  have hword := s.statusWord_toNat
  have hbusy := s.busy.toNat_lt
  have hdone := s.done.toNat_lt
  have hok := s.ok.toNat_lt
  have hclose := s.closeFail.toNat_lt
  have hcmd := s.cmdErr.toNat_lt
  have herr := s.err.code.isLt
  have hphase := s.phase.code.isLt
  have hlast := s.lastErr.code.isLt
  refine ⟨getLsbD_eq_of_toNat ?_, getLsbD_eq_of_toNat ?_, getLsbD_eq_of_toNat ?_, extractLsb'_eq_of_toNat ?_,
    getLsbD_eq_of_toNat ?_, getLsbD_eq_of_toNat ?_, extractLsb'_eq_of_toNat ?_, extractLsb'_eq_of_toNat ?_,
    extractLsb'_eq_of_toNat ?_, extractLsb'_eq_of_toNat ?_⟩
  case refine_7 | refine_10 => rw [BitVec.ofNat_eq_ofNat, BitVec.toNat_zero]; omega
  all_goals omega

/-- A write of a register other than CTRL (R231). -/
theorem exec_regWrite {off : Nat} {v : Word} {s t : State} (r : Reg) (hr : regAt off = some r) (hc : r ≠ .ctrl)
    (hw : s.writeReg v r = t) : exec (.regWrite off v) s = .next t := by
  simp only [exec, execRegWrite, hr, hw]

/-- Settles O38: from the fields' places in the word, and the write that STATUS ignores. -/
theorem statusLayout : Obligations.StatusLayout :=
  ⟨fun s => ⟨readsAs_of_regAt rfl rfl, s.statusWord_fields⟩, fun _ _ => exec_regWrite .status rfl (by decide) rfl, rfl⟩

theorem ErrCode.code_lt (e : ErrCode) : e.code.toNat < 8 := by cases e <;> decide

theorem Phase.code_lt (p : Phase) : p.code.toNat < 13 := by cases p <;> decide

/-- Settles O39: STATUS shows the codes of the fields it holds, and those have no other codes. -/
theorem statusCodes : Obligations.StatusCodes := by
  refine ⟨rfl, rfl, fun s => ?_⟩
  obtain ⟨-, -, -, herr, -, -, -, hphase, hlast, -⟩ := s.statusWord_fields
  rw [herr, hphase, hlast]
  exact ⟨s.err.code_lt, s.lastErr.code_lt, s.phase.code_lt⟩

/-! ### Writing a register (R64, R231) -/

/-- Settles O40: each of the seven writes is its register's, made while idle. -/
theorem registerWritesWhileIdle : Obligations.RegisterWritesWhileIdle := by
  intro v s hb
  refine ⟨exec_regWrite .maxRetries rfl (by decide) ?_, exec_regWrite .wakeDelay rfl (by decide) ?_,
    exec_regWrite .writeModeDelay rfl (by decide) ?_, exec_regWrite .readDelay rfl (by decide) ?_,
    exec_regWrite .retryDelay rfl (by decide) ?_, exec_regWrite .respLo rfl (by decide) ?_,
    exec_regWrite .respHi rfl (by decide) ?_⟩
  all_goals simp only [State.writeReg, State.whenIdle_of_idle _ hb, Response.setWordLo, Response.setWordHi]

theorem setWidth_extractLsb'_eq_and (v : Word) : (v.extractLsb' 0 8).setWidth 32 = v &&& 0xFF#32 := by
  have hmask : (v &&& 0xFF#32).toNat = v.toNat % 2 ^ 8 := Nat.and_two_pow_sub_one_eq_mod v.toNat 8
  refine BitVec.eq_of_toNat_eq ?_
  rw [hmask, BitVec.toNat_setWidth, BitVec.extractLsb'_toNat, Nat.shiftRight_zero]
  omega

/-- Settles O43: the read after each of the seven writes returns the word written, put together again for RESP. -/
theorem readAfterWrite : Obligations.ReadAfterWrite := by
  intro v s hb
  obtain ⟨hmax, hwake, hmode, hread, hretry, hlo, hhi⟩ := registerWritesWhileIdle v s hb
  refine ⟨?_, _, hmax, readsAs_of_regAt rfl (setWidth_extractLsb'_eq_and v)⟩
  simp only [List.forall_mem_cons, List.not_mem_nil, false_imp_iff, implies_true, and_true]
  exact ⟨⟨_, hwake, readsAs_of_regAt rfl rfl⟩, ⟨_, hmode, readsAs_of_regAt rfl rfl⟩,
    ⟨_, hread, readsAs_of_regAt rfl rfl⟩, ⟨_, hretry, readsAs_of_regAt rfl rfl⟩,
    ⟨_, hlo, readsAs_of_regAt rfl (Response.wordLo_setWordLo v s.resp)⟩,
    ⟨_, hhi, readsAs_of_regAt rfl (Response.wordHi_setWordHi v s.resp)⟩⟩

/-- Settles O42: the eight offsets are those of read-only registers and of 0x3C, whose write is no write. -/
theorem readOnlyWritesIgnored : Obligations.ReadOnlyWritesIgnored := by
  intro v s
  simp only [List.forall_mem_cons, List.not_mem_nil, false_imp_iff, implies_true, and_true]
  exact ⟨exec_regWrite .status rfl (by decide) rfl, exec_regWrite .humidity rfl (by decide) rfl,
    exec_regWrite .temperature rfl (by decide) rfl, exec_regWrite .diLo rfl (by decide) rfl,
    exec_regWrite .diHi rfl (by decide) rfl, exec_regWrite .crc rfl (by decide) rfl,
    exec_regWrite .attempts rfl (by decide) rfl, exec_regWrite .unmapped rfl (by decide) rfl⟩

/-! ### The order of the phases (R43, R110, R228) -/

section
variable {s t : State}

theorem ErrCode.afterClose_follows (e : ErrCode) : e.afterClose ∈ Phase.close.successors := by cases e <;> decide

/-- A sequencer's turn leaves its phase or goes to one of the phase's successors. -/
theorem SequencerEffect.phase_follows (he : SequencerEffect s t) : t.phase = s.phase ∨ t.phase ∈ s.phase.successors := by
  cases he with
  | hold => exact .inl rfl
  | issueOpen hp ho => exact .inl rfl
  | issue q hp hq ho => exact .inl rfl
  | opened q hp ho => exact .inr (by simp [hp, Phase.successors])
  | openFailed q hp ho => exact .inr (by simp [hp, Phase.successors, Phase.errorTarget])
  | written q d p hp ho =>
    have hnext : ∀ c ∈ [(Phase.wake1, Phase.waitWake), (.wake2, .waitWriteMode), (.sendCmd, .waitRead)],
        c.2 ∈ c.1.successors := by decide
    exact .inr (hnext _ hp)
  | stepFailed q a e hp he ho =>
    have hnext : ∀ p ∈ [Phase.wake1, .wake2, .sendCmd, .read], p.errorTarget ∈ p.successors := by decide
    exact .inr (hnext _ hp)
  | readDone q bs r hp hr ho => exact .inr (by simp [hp, Phase.successors])
  | closed q hp ho | closeFailed q hp ho => exact .inr (hp ▸ s.curErr.afterClose_follows)
  | delayOver p hp h0 =>
    have hnext : ∀ c ∈ [(Phase.waitWake, Phase.wake2), (.waitWriteMode, .sendCmd), (.waitRead, .read),
        (.retryWait, .openBus)], c.2 ∈ c.1.successors := by decide
    exact .inr (hnext _ hp)
  | validated hp hm => exact .inr (by simp [hp, Phase.successors])
  | checked hp hm => exact .inr (by simp [hp, Phase.successors, State.completeCheck])
  | succeeded hp hm he => exact .inr (by simp [hp, Phase.successors])
  | failedSingle hp hm he => exact .inr (by simp [hp, Phase.successors])
  | exhausted hp hm he hb => exact .inr (by simp [hp, Phase.successors])
  | retried hp hm he hb => exact .inr (by simp [hp, Phase.successors])

/-- In IDLE the sequencer has no step (R43). -/
theorem SequencerEffect.eq_of_idle (he : SequencerEffect s t) (hidle : s.phase = .idle) : t = s := by
  cases he with
  | hold => rfl
  | issue q _ hq => simp [hidle, Phase.request] at hq
  | written q d p hp | delayOver p hp | stepFailed q a e hp => simp [hidle] at hp
  | issueOpen hp | validated hp | checked hp | succeeded hp | failedSingle hp | exhausted hp | retried hp =>
    cases hidle.symm.trans hp
  | opened q hp | openFailed q hp | closed q hp | closeFailed q hp | readDone q bs r hp => cases hidle.symm.trans hp

/-- A host access leaves the phase, or accepts a command in IDLE. -/
theorem HostEffect.phase_follows (he : HostEffect s t) (h : s.Inv) :
    t.phase = s.phase ∨ t.phase ∈ s.phase.successors := by
  cases he with
  | acceptAttempt m hb hm =>
    exact .inr (by rw [h.idle_of_not_busy hb]; cases m <;> simp [Mode.firstPhase, Phase.successors])
  | acceptCheck hb => exact .inr (by rw [h.idle_of_not_busy hb]; simp [Mode.firstPhase, Phase.successors])
  | _ => exact .inl rfl

/-! ### What starts a command (R22, R51, R220, R228) -/

/-- No command starts: phase and BUSY stay as they are. -/
def State.SameActivity (s t : State) : Prop := t.phase = s.phase ∧ t.busy = s.busy

theorem State.SameActivity.whenIdle {f : State → State} (hf : s.SameActivity (f s)) : s.SameActivity (s.whenIdle f) := by
  cases hb : s.busy
  · rwa [State.whenIdle_of_idle f hb]
  · rw [State.whenIdle_of_busy f hb]; exact ⟨rfl, rfl⟩

theorem State.writeReg_sameActivity (v : Word) (s : State) (r : Reg) : s.SameActivity (s.writeReg v r) := by
  cases r with
  | maxRetries | wakeDelay | writeModeDelay | readDelay | retryDelay | respLo | respHi =>
    exact State.SameActivity.whenIdle ⟨rfl, rfl⟩
  | _ => exact ⟨rfl, rfl⟩

/-- A word written to CTRL starts a command only when its CMD is 1, 2 or 3 (R220). -/
theorem dispatchCtrl_sameActivity {v : Word} (h : dispatchCtrl v s = .next t) :
    s.SameActivity t ∨ 1 ≤ v.toNat % 8 ∧ v.toNat % 8 ≤ 3 := by
  rw [← ctrlCmd_toNat]
  unfold dispatchCtrl at h
  split at h
  case isTrue =>
    cases h
    exact .inl (State.SameActivity.whenIdle ⟨rfl, rfl⟩)
  split at h
  case isTrue h1 => exact .inr (by simp [h1])
  split at h
  case isTrue h2 => exact .inr (by simp [h2])
  split at h
  case isTrue h3 => exact .inr (by simp [h3])
  cases h
  exact .inl (State.SameActivity.whenIdle ⟨rfl, rfl⟩)

theorem eq_zero_of_regAt_ctrl {off : Nat} (h : regAt off = some .ctrl) : off = 0 := by
  unfold regAt at h
  split at h <;> simp_all

theorem execRegWrite_sameActivity {off : Nat} {v : Word} (h : execRegWrite off v s = .next t) :
    s.SameActivity t ∨ off = 0 ∧ 1 ≤ v.toNat % 8 ∧ v.toNat % 8 ≤ 3 := by
  unfold execRegWrite at h
  split at h
  case h_1 hr => exact (dispatchCtrl_sameActivity h).imp_right fun hv => ⟨eq_zero_of_regAt_ctrl hr, hv⟩
  case h_2 r hr _ =>
    cases h
    exact .inl (State.writeReg_sameActivity v s r)
  case h_3 => exact absurd h undefinedAccess_ne_next

theorem execRegRead_sameActivity {off : Nat} (h : execRegRead off s = .next t) : s.SameActivity t := by
  unfold execRegRead at h
  split at h
  case h_1 => cases h; exact ⟨rfl, rfl⟩
  case h_2 => exact absurd h undefinedAccess_ne_next

theorem width_of_decodeAccess {w : AccessWidth} {off : Nat} {i j : Instr} (h : decodeAccess w off j = .instr i) :
    w = .bits32 := by
  by_contra hw
  simp [decodeAccess, hw] at h

/-- A host access starts a command only by writing CMD 1, 2 or 3 to CTRL (R228). -/
theorem hostTurn_sameActivity {a : HostAccess} (h : hostTurn a s = .next t) :
    s.SameActivity t ∨ ∃ v, a = .write .bits32 0x00 v ∧ 1 ≤ v.toNat % 8 ∧ v.toNat % 8 ≤ 3 := by
  unfold hostTurn at h
  split at h
  case h_2 => cases h
  case h_1 i hi =>
    unfold fetchHost at hi
    split at hi
    case h_1 v =>
      obtain rfl : decodeCtrl v = i := Decoded.instr.inj hi
      rw [exec_decodeCtrl] at h
      exact (dispatchCtrl_sameActivity h).imp_right fun hv => ⟨v, rfl, hv⟩
    case h_2 =>
      cases a with
      | read w off =>
        have hd : decodeAccess w off (.regRead off) = .instr i := hi
        obtain ⟨rfl, -⟩ := decodeAccess_instr hd
        exact .inl (execRegRead_sameActivity h)
      | write w off v =>
        have hd : decodeAccess w off (.regWrite off v) = .instr i := hi
        obtain ⟨rfl, -⟩ := decodeAccess_instr hd
        obtain rfl := width_of_decodeAccess hd
        exact (execRegWrite_sameActivity h).imp_right fun ⟨h0, hv⟩ => ⟨v, by rw [h0], hv⟩

/-- Settles O50: each turn follows the sequence, and in IDLE the one turn that starts anything is a command's. -/
theorem phaseSuccession : Obligations.PhaseSuccession := by
  intro s t h hstep
  have hstays : s.phase = .idle → t.phase = s.phase → t.busy = s.busy → ¬(t.phase ≠ .idle ∨ t.busy = true) := by
    intro hp hphase hbusy
    have hb : s.busy = false := by simpa [hp] using h.busy_iff
    simp [hphase, hbusy, hp, hb]
  cases step_effect hstep with
  | host a rest _ hs he =>
    refine ⟨(he.phase_follows (h.withScript rest)).imp_right .inl, fun hp hstart => ?_⟩
    have hturn : hostTurn a { s with script := rest } = .next t := by simpa only [step, hs, takeTurn] using hstep
    obtain ⟨hphase, hbusy⟩ | ⟨v, rfl, hv⟩ := hostTurn_sameActivity hturn
    · exact absurd hstart (hstays hp hphase hbusy)
    · exact ⟨v, rest, hs, hv⟩
  | sequencer rest _ hs he =>
    refine ⟨he.phase_follows.imp_right .inl, fun hp hstart => absurd hstart ?_⟩
    obtain rfl := he.eq_of_idle hp
    exact hstays hp rfl rfl
  | answer a q rest hs ho hf => exact ⟨.inl rfl, fun hp hstart => absurd hstart (hstays hp rfl rfl)⟩
  | lateAnswer a rest hs => exact ⟨.inl rfl, fun hp hstart => absurd hstart (hstays hp rfl rfl)⟩
  | elapse us rest hs => exact ⟨.inl rfl, fun hp hstart => absurd hstart (hstays hp rfl rfl)⟩
  | reset rest hs => exact ⟨.inr (.inr (by rw [hs]; rfl)), fun hp hstart => by simp at hstart⟩
  | unscripted _ hs he =>
    split at he
    case isTrue hd => exact ⟨he.phase_follows.imp_right .inl, fun hp => by simp [hp, Phase.isDelay] at hd⟩
    case isFalse hd =>
      refine ⟨he.phase_follows.imp_right .inl, fun hp hstart => absurd hstart ?_⟩
      obtain rfl := he.eq_of_idle hp
      exact hstays hp rfl rfl

/-! ### The writers of the result registers and of the CRC register (R24, R40, R165) -/

/-- The result registers are left or decoded from a buffer that passes both checks; the CRC register is left or written
by VALIDATE. -/
def State.ResultsFollow (s t : State) : Prop :=
  ((t.humidity = s.humidity ∧ t.temperature = s.temperature ∧ t.diE6 = s.diE6) ∨
    (s.phase = .validate ∧ crcValid s.resp = true ∧ errorFlag s.params.errOffset s.resp = false ∧
      t.humidity = s.decodeResult.humidity ∧ t.temperature = s.decodeResult.temperature ∧
      t.diE6 = s.decodeResult.diE6)) ∧
  ((t.crcCalc = s.crcCalc ∧ t.crcRecv = s.crcRecv) ∨
    (s.phase = .validate ∧ t.crcCalc = crcCompute s.resp ∧ t.crcRecv = s.resp.trailer))

theorem State.resultsFollow_of_same (hr : (t.humidity, t.temperature, t.diE6) = (s.humidity, s.temperature, s.diE6))
    (hc : (t.crcCalc, t.crcRecv) = (s.crcCalc, s.crcRecv)) : s.ResultsFollow t := by
  simp only [Prod.mk.injEq] at hr hc
  exact ⟨.inl hr, .inl hc⟩

theorem State.runChecks_resultsFollow (hp : s.phase = .validate) : s.ResultsFollow s.runChecks := by
  refine ⟨?_, .inr ⟨hp, s.runChecks_crcCalc, s.runChecks_crcRecv⟩⟩
  obtain ⟨-, h⟩ | ⟨-, -, h⟩ | ⟨hcrc, hflag, h⟩ := s.runChecks_cases
  · exact .inl (by simp [h])
  · exact .inl (by simp [h])
  · exact .inr ⟨hp, hcrc, hflag, by simp [h]⟩

theorem HostEffect.resultsFollow (he : HostEffect s t) : s.ResultsFollow t := by
  cases he <;> exact State.resultsFollow_of_same rfl rfl

theorem SequencerEffect.resultsFollow (he : SequencerEffect s t) : s.ResultsFollow t := by
  cases he with
  | validated hp hm | checked hp hm =>
    obtain ⟨hresults, hcrc⟩ := State.runChecks_resultsFollow hp
    exact ⟨hresults, hcrc⟩
  | _ => exact State.resultsFollow_of_same (by simp) (by simp)

/-- Settles O51: only VALIDATE's two steps write these registers, and the state the turn is taken on has those of `s`. -/
theorem resultsOnlyFromDecode : Obligations.ResultsOnlyFromDecode := by
  intro s t hstep hreset
  show s.ResultsFollow t
  cases step_effect hstep with
  | host a rest _ hs he => exact he.resultsFollow
  | sequencer rest _ hs he => exact he.resultsFollow
  | answer a q rest hs ho hf => exact State.resultsFollow_of_same rfl rfl
  | lateAnswer a rest hs => exact State.resultsFollow_of_same rfl rfl
  | elapse us rest hs => exact State.resultsFollow_of_same rfl rfl
  | reset rest hs => exact absurd (by rw [hs]; rfl) hreset
  | unscripted _ hs he => split at he <;> exact he.resultsFollow

end
end Sys2Proof.Machine
end

section
/-!
The settled statements of the family 20_memory, and what they need: which instruction a host access decodes to, which
accesses are refused, and what a step does to the parameters, the configuration registers and RESP.
-/

namespace Sys2Proof.Machine

/-! ### The host's turn (R61, R62, R230, R231) -/

/-- The host's scripted turn is taken on the state without it (log entry 1). -/
theorem step_host {s : State} {a : HostAccess} {rest : List Turn} (hs : s.script = .host a :: rest) :
    step s = hostTurn a { s with script := rest } := by
  simp only [step, hs, takeTurn]

theorem hostTurn_of_decode {a : HostAccess} {i : Instr} {s : State} (h : decode s.params (fetchHost a) = .instr i) :
    hostTurn a s = exec i s := by
  simp only [hostTurn, h]

theorem decodeCtrl_wellFormed (v : Word) : (decodeCtrl v).WellFormed := by
  unfold decodeCtrl
  repeat' split
  all_goals rfl

/-- What a host access decodes to has an encoding (R87). -/
theorem decode_fetchHost_wellFormed {p : Params} {a : HostAccess} {i : Instr}
    (h : decode p (fetchHost a) = .instr i) : i.WellFormed := by
  unfold fetchHost at h
  split at h
  case h_1 v =>
    obtain rfl : decodeCtrl v = i := Decoded.instr.inj h
    exact decodeCtrl_wellFormed v
  case h_2 =>
    cases a with
    | read w off | write w off v =>
      obtain ⟨rfl, hreg⟩ := decodeAccess_instr h
      exact (regAt_isSome_iff off).symm.trans hreg

/-- A 32-bit access to a register's offset decodes (R61, R62). -/
theorem decodeAccess_of_register {off : Nat} (h : (regAt off).isSome = true) (i : Instr) :
    decodeAccess .bits32 off i = .instr i := by
  simp [decodeAccess, (offsetError_eq_none_iff off).2 h]

theorem hostTurn_read {off : Nat} (h : (regAt off).isSome = true) (s : State) :
    hostTurn (.read .bits32 off) s = exec (.regRead off) s :=
  hostTurn_of_decode (decodeAccess_of_register h _)

/-- Every write but the 32-bit one of CTRL is fetched as its record (log entry 9). -/
theorem fetchHost_write {w : AccessWidth} {off : Nat} (h : w ≠ .bits32 ∨ off ≠ 0) (v : Word) :
    fetchHost (.write w off v) = .host (.write w off v) := by
  unfold fetchHost
  split
  case h_1 heq =>
    obtain ⟨rfl, rfl, -⟩ := HostAccess.write.inj heq
    simp at h
  case h_2 => rfl

/-- At offset 0 the word is dispatched whether it is taken as a command or as the register's data (R220). -/
theorem hostTurn_write {off : Nat} (h : (regAt off).isSome = true) (v : Word) (s : State) :
    hostTurn (.write .bits32 off v) s = exec (.regWrite off v) s := by
  by_cases h0 : off = 0
  · subst h0
    exact exec_decodeCtrl v s
  · refine hostTurn_of_decode ?_
    rw [fetchHost_write (.inr h0)]
    exact decodeAccess_of_register h _

/-- Settles O4: the first part by decoding, the second because the offset is that of a register. -/
theorem stepRunsHostInstruction : Obligations.StepRunsHostInstruction := by
  refine ⟨fun s a rest i hs hd => ?_, fun s off v rest hal hwin => ?_⟩
  · exact ⟨decode_fetchHost_wellFormed hd, (step_host hs).trans (hostTurn_of_decode hd)⟩
  · have hreg : (regAt off).isSome = true := by simp [regAt_isSome_iff, offsetAligned, offsetInWindow, hal, hwin]
    exact ⟨fun hs => (step_host hs).trans (hostTurn_read hreg _),
      fun hs => (step_host hs).trans (hostTurn_write hreg v _)⟩

/-! ### Undefined accesses (R61, R62, U5) -/

theorem undefinedAccess_refuses (off : Nat) : ∃ e, undefinedAccess off = .refused (.undefinedAccess e) := by
  unfold undefinedAccess
  split <;> exact ⟨_, rfl⟩

/-- An access of another width, or where the window has no register, decodes to no instruction. -/
theorem decodeAccess_rejects {w : AccessWidth} {off : Nat} (h : w ≠ .bits32 ∨ regAt off = none) (i : Instr) :
    ∃ e, decodeAccess w off i = .reject e := by
  cases hd : decodeAccess w off i with
  | reject e => exact ⟨e, rfl⟩
  | instr j =>
    have hreg := (decodeAccess_instr hd).2
    obtain hw | hnone := h
    · exact absurd (width_of_decodeAccess hd) hw
    · simp [hnone] at hreg

theorem hostTurn_read_refuses {w : AccessWidth} {off : Nat} (h : w ≠ .bits32 ∨ regAt off = none) (s : State) :
    ∃ e, hostTurn (.read w off) s = .refused (.undefinedAccess e) :=
  (decodeAccess_rejects h _).imp fun _ hd => hostTurn_refuses hd

/-- CTRL is a register, so an undefined write is never fetched as a command word. -/
theorem hostTurn_write_refuses {w : AccessWidth} {off : Nat} (h : w ≠ .bits32 ∨ regAt off = none) (v : Word)
    (s : State) : ∃ e, hostTurn (.write w off v) s = .refused (.undefinedAccess e) := by
  have hrecord : w ≠ .bits32 ∨ off ≠ 0 := h.imp_right fun hnone h0 => by simp [h0, regAt] at hnone
  refine (decodeAccess_rejects h (.regWrite off v)).imp fun _ hd => hostTurn_refuses ?_
  rw [fetchHost_write hrecord]
  exact hd

/-- Settles O7: the window has no register at such an offset. -/
theorem undefinedAccessRefused : Obligations.UndefinedAccessRefused := by
  refine ⟨fun s w off v rest h => ?_, fun s off v h => ?_⟩
  · rw [← regAt_eq_none_iff] at h
    exact ⟨fun hs => step_host hs ▸ hostTurn_read_refuses h _,
      fun hs => step_host hs ▸ hostTurn_write_refuses h v _⟩
  · rw [← regAt_eq_none_iff] at h
    simp only [exec, execRegRead, execRegWrite, h]
    exact ⟨undefinedAccess_refuses off, undefinedAccess_refuses off⟩

/-! ### What a running command leaves alone (R75, R118, R122, R189) -/

section
variable {s t : State}

/-- The configuration registers: MAX_RETRIES and the four delays (R31 to R35). -/
def State.configuration (s : State) : Byte × Word × Word × Word × Word :=
  (s.maxRetries, s.wakeDelay, s.writeModeDelay, s.readDelay, s.retryDelay)

/-- RESP is left, or filled by READ's completion with the 8 bytes of the answer held (R118). -/
def State.RespFollows (s t : State) : Prop :=
  t.resp = s.resp ∨ (s.phase = .read ∧
    ∃ q bs, s.outstanding = some ⟨q, some (.okBytes bs)⟩ ∧ bs.length = 8 ∧ Response.ofBytes bs = some t.resp)

/-- The parameters are left; and, were a command running, the configuration too, RESP changing by READ alone. -/
def State.RunsStably (s t : State) : Prop :=
  t.params = s.params ∧ (s.busy = true → t.configuration = s.configuration ∧ s.RespFollows t)

theorem State.runsStably_of_same (h : (t.params, t.configuration, t.resp) = (s.params, s.configuration, s.resp)) :
    s.RunsStably t := by
  simp only [Prod.mk.injEq] at h
  obtain ⟨hparams, hconf, hresp⟩ := h
  exact ⟨hparams, fun _ => ⟨hconf, .inl hresp⟩⟩

theorem Response.length_of_ofBytes {bs : List Byte} {r : Response} (h : Response.ofBytes bs = some r) :
    bs.length = 8 := by
  unfold Response.ofBytes at h
  split at h
  · rfl
  · cases h

theorem State.runChecks_settings (s : State) :
    (s.runChecks.params, s.runChecks.configuration, s.runChecks.resp) = (s.params, s.configuration, s.resp) := by
  obtain ⟨_, _, _, _, _, _, _, _, h⟩ := s.runChecks_frame
  rw [h]
  rfl

/-- A host access changes a configuration register or RESP, or accepts a command, only while idle (R227). -/
theorem HostEffect.runsStably (he : HostEffect s t) : s.RunsStably t := by
  cases he with
  | nothing | misuse | read => exact State.runsStably_of_same rfl
  | acceptAttempt _ hidle | acceptCheck hidle | setBound _ hidle | setWakeDelay _ hidle | setWriteModeDelay _ hidle
  | setReadDelay _ hidle | setRetryDelay _ hidle | setResp _ hidle =>
    exact ⟨rfl, fun hbusy => by simp [hidle] at hbusy⟩

/-- Of the sequencer's turns READ's completion alone writes RESP, and none writes the configuration. -/
theorem SequencerEffect.runsStably (he : SequencerEffect s t) : s.RunsStably t := by
  cases he with
  | readDone q bs r hp hr ho =>
    exact ⟨rfl, fun _ => ⟨rfl, .inr ⟨hp, q, bs, ho, Response.length_of_ofBytes hr, hr⟩⟩⟩
  | validated | checked => exact State.runsStably_of_same s.runChecks_settings
  | _ => exact State.runsStably_of_same rfl

/-- Only a reset is no such step, and it keeps the parameters (R270). -/
theorem StepEffect.runsStably (he : StepEffect s t) :
    s.RunsStably t ∨ (s.script.head? = some .reset ∧ t.params = s.params) := by
  cases he with
  | host a rest _ hs he => exact .inl he.runsStably
  | sequencer rest _ hs he => exact .inl he.runsStably
  | answer | lateAnswer | elapse => exact .inl (State.runsStably_of_same rfl)
  | reset rest hs => exact .inr ⟨by rw [hs]; rfl, rfl⟩
  | unscripted _ hs he => split at he <;> exact .inl he.runsStably

/-- Settles O52: every step but a reset is a stable one. -/
theorem stableWhileBusy : Obligations.StableWhileBusy := by
  intro s t hstep
  obtain ⟨hparams, hrun⟩ | ⟨hreset, hparams⟩ := (step_effect hstep).runsStably
  · refine ⟨hparams, fun hbusy _ => ?_⟩
    obtain ⟨hconf, hresp⟩ := hrun hbusy
    simp only [State.configuration, Prod.mk.injEq] at hconf
    obtain ⟨hmax, hwake, hmode, hread, hretry⟩ := hconf
    exact ⟨hmax, hwake, hmode, hread, hretry, hresp⟩
  · exact ⟨hparams, fun _ hnot => absurd hreset hnot⟩

end

end Sys2Proof.Machine
end

section
/-!
The settled statements of the family 30_encoding, and what they need: decoder and encoder format by format, the placed
instruction's step, bit 7 of a byte, and the CRC of the source's example.
-/

namespace Sys2Proof.Machine

/-! ### F-CTRL (R81, R82) -/

/-- The encoder's CTRL word is the word whose fields it is given. -/
theorem ctrl_ctrlWord_of_ctrlCmd {w : Word} {c : BitVec 3} (h : ctrlCmd w = c) :
    Encoded.ctrl (ctrlWord (ctrlIgnored w) c) = .ctrl w := by
  rw [← h, ctrlWord_fields]

/-- A CMD above 3 is 1 followed by its CMD[1:0], which RESERVED_CMD keeps (R225). -/
theorem reserved_cmd_eq (c : BitVec 3) (h0 : c ≠ 0) (h1 : c ≠ 1) (h2 : c ≠ 2) (h3 : c ≠ 3) :
    c = (1#1 ++ c.extractLsb' 0 2 : BitVec (1 + 2)) := by
  revert c; decide

/-- No CMD of RESERVED_CMD is that of a neighbour, and CMD[1:0] is read back. -/
theorem reserved_cmd_fields (low : BitVec 2) :
    (1#1 ++ low : BitVec (1 + 2)) ≠ 0 ∧ (1#1 ++ low : BitVec (1 + 2)) ≠ 1 ∧ (1#1 ++ low : BitVec (1 + 2)) ≠ 2 ∧
      (1#1 ++ low : BitVec (1 + 2)) ≠ 3 ∧ (1#1 ++ low : BitVec (1 + 2)).extractLsb' 0 2 = low := by
  revert low; decide

theorem encode_decodeCtrl (p : Params) (w : Word) : encode p (decodeCtrl w) = .ctrl w := by
  unfold decodeCtrl
  split
  · exact ctrl_ctrlWord_of_ctrlCmd ‹_›
  split
  · exact ctrl_ctrlWord_of_ctrlCmd ‹_›
  split
  · exact ctrl_ctrlWord_of_ctrlCmd ‹_›
  split
  · exact ctrl_ctrlWord_of_ctrlCmd ‹_›
  · rw [low_of_ctrlCmd]
    exact ctrl_ctrlWord_of_ctrlCmd (reserved_cmd_eq _ ‹_› ‹_› ‹_› ‹_›)

/-- The decoder's test of CMD sees the CMD the word was built from. -/
theorem decodeCtrl_ctrlWord (g : BitVec 29) (c : BitVec 3) :
    decodeCtrl (ctrlWord g c) =
      if c = 0 then .nop g else if c = 1 then .measure g else if c = 2 then .measureRetry g
      else if c = 3 then .check g else .reservedCmd (c.extractLsb' 0 2) g := by
  rw [decodeCtrl, low_of_ctrlCmd, ctrlCmd_ctrlWord, ctrlIgnored_ctrlWord]

theorem decodeCtrl_reserved (g : BitVec 29) (low : BitVec 2) :
    decodeCtrl (ctrlWord g (1#1 ++ low : BitVec (1 + 2))) = .reservedCmd low g := by
  obtain ⟨h0, h1, h2, h3, hlow⟩ := reserved_cmd_fields low
  rw [decodeCtrl_ctrlWord, if_neg h0, if_neg h1, if_neg h2, if_neg h3, hlow]

/-! ### F-TXN and F-HOST (R84 to R87) -/

/-- A request that decodes is the encoding of its instruction: no OPEN with other values, no other bytes, no other
count. -/
theorem encode_of_decodeRequest {p : Params} {q : Request} {i : Instr} (h : decodeRequest p q = .instr i) :
    encode p i = .txn q := by
  cases q with
  | openBus path slaveAddress busRetryBudget timeout =>
    rw [decodeRequest] at h
    split at h
    case isTrue hopen => cases h; exact congrArg Encoded.txn hopen.symm
    case isFalse => cases h
  | write bytes =>
    rw [decodeRequest] at h
    split at h
    case isTrue hempty => cases h; exact hempty ▸ rfl
    split at h
    case isTrue hbytes => cases h; exact hbytes ▸ rfl
    case isFalse => cases h
  | read count =>
    rw [decodeRequest] at h
    split at h
    case isTrue hcount => cases h; exact hcount ▸ rfl
    case isFalse => cases h
  | close => cases h; rfl

/-- An instruction encoded as a transport request is a bus instruction, which is well-formed as it stands. -/
theorem wellFormed_of_encode_txn {p : Params} {q : Request} {i : Instr} (h : encode p i = .txn q) :
    i.WellFormed ∧ (busPhase i).isSome = true := by
  cases i with
  | busOpen | busWake | busCmd | busRead | busClose => exact ⟨rfl, rfl⟩
  | _ => cases h

/-- The offset of a well-formed host access is that of a register. -/
theorem decodeAccess_of_wellFormed {off : Nat} (h : (offsetAligned off && offsetInWindow off) = true) (i : Instr) :
    decodeAccess .bits32 off i = .instr i :=
  decodeAccess_of_register ((regAt_isSome_iff off).trans h) i

/-- A host access that decodes is the encoding of a well-formed instruction. -/
theorem encode_of_decodeHost {p : Params} {a : HostAccess} {i : Instr} (h : decodeHost a = .instr i) :
    i.WellFormed ∧ encode p i = .host a := by
  cases a with
  | read w off | write w off v =>
    obtain rfl := width_of_decodeAccess h
    obtain ⟨rfl, hreg⟩ := decodeAccess_instr h
    exact ⟨(regAt_isSome_iff off).symm.trans hreg, rfl⟩

/-! ### The round trips (R80, R101) -/

/-- Settles O2, row by row: a command word's CMD is read back, a request equals the one it is compared with, and a
well-formed access is defined. -/
theorem decodeEncodeRoundTrip : Obligations.DecodeEncodeRoundTrip := by
  intro p i hi
  cases i with
  | nop g | measure g | measureRetry g | check g => exact congrArg Decoded.instr (decodeCtrl_ctrlWord g _)
  | reservedCmd low g => exact congrArg Decoded.instr (decodeCtrl_reserved g low)
  | busOpen => exact if_pos rfl
  | busWake | busCmd | busRead | busClose => rfl
  | regRead off | regWrite off v => exact decodeAccess_of_wellFormed hi _

/-- Settles O3, format by format. -/
theorem decodeAcceptsOnlyEncodings : Obligations.DecodeAcceptsOnlyEncodings := by
  intro p e i h
  cases e with
  | ctrl w =>
    obtain rfl : decodeCtrl w = i := Decoded.instr.inj h
    exact ⟨decodeCtrl_wellFormed w, encode_decodeCtrl p w⟩
  | host a => exact encode_of_decodeHost h
  | txn q =>
    have henc := encode_of_decodeRequest h
    exact ⟨(wellFormed_of_encode_txn henc).1, henc⟩

/-- Settles O1: the decoder runs on the words of R82 and on the requests and records of R84 to R87; only OPEN's
comparison with the build parameters is not one of literals. -/
theorem sampleWordsDecode : Obligations.SampleWordsDecode := fun _ =>
  ⟨rfl, rfl, rfl, rfl, rfl, if_pos rfl, rfl, rfl, rfl, rfl, rfl, rfl, rfl⟩

/-! ### A placed instruction's step (R101, R110; log entry 16) -/

/-- A table word's instruction is its encoded form's; that is a CTRL word or a write, whose decoding no build parameter
enters. -/
theorem decodeTableWord_some {nbits w : Nat} {i : Instr} (h : decodeTableWord nbits w = some i) :
    (∃ v, encodedOfTableWord nbits w = some (.ctrl v) ∧ decodeCtrl v = i) ∨
      ∃ bytes, encodedOfTableWord nbits w = some (.txn (.write bytes)) ∧
        ∀ p, decodeRequest p (.write bytes) = .instr i := by
  unfold decodeTableWord at h
  split at h
  case h_1 => cases h
  case h_2 e he =>
    split at h
    case h_2 => cases h
    case h_1 j hj =>
      obtain rfl : j = i := Option.some.inj h
      rw [he]
      unfold encodedOfTableWord at he
      split at he
      case isTrue => cases he; exact .inl ⟨_, rfl, Decoded.instr.inj hj⟩
      split at he
      case isTrue => cases he; exact .inr ⟨_, rfl, fun _ => hj⟩
      split at he
      case isTrue => cases he; exact .inr ⟨_, rfl, fun _ => hj⟩
      case isFalse => cases he

theorem busPhase_decodeCtrl (v : Word) : busPhase (decodeCtrl v) = none :=
  decode_fetchHost (p := Config.params) (a := .write .bits32 0 v) rfl

/-- The phase a bus instruction is placed in executes it. -/
theorem Phase.instr_of_busPhase {i : Instr} {ph : Phase} (h : busPhase i = some ph) : ph.instr = some i := by
  cases i <;> cases h <;> rfl

/-- A placed CTRL word is the host's next turn. -/
theorem step_placeEncoded_ctrl (v : Word) (s : State) : step (placeEncoded (.ctrl v) s) = exec (decodeCtrl v) s :=
  (step_host (s := placeEncoded (.ctrl v) s) rfl).trans (hostTurn_of_decode rfl)

/-- A placed request is the sequencer's next turn, in the phase that executes its instruction. -/
theorem step_placeEncoded_txn {s : State} {q : Request} {i : Instr} {ph : Phase}
    (hq : decodeRequest s.params q = .instr i) (hph : busPhase i = some ph) :
    step (placeEncoded (.txn q) s) = exec i { s with phase := ph, outstanding := none } := by
  simp only [placeEncoded, hq, hph, step, takeTurn, sequencerTurn, Phase.instr_of_busPhase hph]

/-- Settles O6: a table word is a CTRL word or a write, and each is placed where the next step executes it. -/
theorem placedInstructionRuns : Obligations.PlacedInstructionRuns := by
  intro s nbits w i h
  obtain ⟨v, he, rfl⟩ | ⟨bytes, he, hdec⟩ := decodeTableWord_some h
  · simp only [State.withFetchWord, he, busPhase_decodeCtrl, step_placeEncoded_ctrl]
  · have hbus := (wellFormed_of_encode_txn (encode_of_decodeRequest (hdec s.params))).2
    obtain ⟨ph, hph⟩ := Option.isSome_iff_exists.1 hbus
    simp only [State.withFetchWord, he, hph, step_placeEncoded_txn (hdec s.params) hph]

/-! ### The error flag and the trailer (R90, R91, R144) -/

/-- Bit 7 of a byte is set from 0x80 on. -/
theorem byte_bit7 (b : Byte) : b.getLsbD 7 = true ↔ 0x80 ≤ b.toNat := by
  have hmsb := BitVec.msb_eq_decide b
  rw [BitVec.msb_eq_getLsbD_last] at hmsb
  exact (Bool.eq_iff_iff.1 hmsb).trans decide_eq_true_iff

/-- Settles O27: the flag is bit 7 of FUNC or of HUM_H. -/
theorem errorFlagBit : Obligations.ErrorFlagBit :=
  ⟨fun r => ⟨byte_bit7 r.func, byte_bit7 r.humH⟩, rfl⟩

/-- The CRC of the source's example, whatever its trailer (R143). -/
theorem crcCompute_example (crcL crcH : Byte) :
    crcCompute ⟨0x03, 0x04, 0x02, 0x5B, 0x01, 0x13, crcL, crcH⟩ = 0xDEC1#16 := by
  have hcrc : crcBytes 0xFFFF#16 [0x03, 0x04, 0x02, 0x5B, 0x01, 0x13] = 0xDEC1#16 := by decide +kernel
  exact hcrc

/-- Settles O58: the trailer is a byte pair, and of the example's two orders only C1 DE is its CRC. -/
theorem trailerByteOrder : Obligations.TrailerByteOrder := by
  refine ⟨fun r => pairValue_toNat r.crcH r.crcL, ?_, ?_⟩
  · rw [crcValid_iff, crcCompute_example]
    decide
  · rw [← Bool.not_eq_true, crcValid_iff, crcCompute_example]
    decide

end Sys2Proof.Machine
end

section
/-!
The settled statements of the family 40_protocol_driver, and what they need: the step of each kind of turn, a
transaction and a delay as pieces of a run, a clean attempt phase by phase, and the frame of a host access under a
running command.
-/

namespace Sys2Proof.Machine

/-! ### The step of each kind of turn (R72, R110, R202, R282; log entries 1 and 2) -/

section
variable {s t u : State} {rest : List Turn}

theorem step_sequencer (hs : s.script = .sequencer :: rest) : step s = sequencerTurn { s with script := rest } := by
  simp only [step, hs, takeTurn]

theorem step_answer {a : Answer} (hs : s.script = .answer a :: rest) :
    step s = State.deliver a { s with script := rest } := by
  simp only [step, hs, takeTurn]

theorem step_elapse {us : Nat} (hs : s.script = .elapse us :: rest) :
    step s = .next (State.elapse us { s with script := rest }) := by
  simp only [step, hs, takeTurn]

theorem step_unscripted (hs : s.script = []) (hd : s.phase.isDelay = false) : step s = sequencerTurn s := by
  simp [step, hs, unscriptedTurn, hd]

/-- Time that has reached the hold leaves nothing to wait (R282). -/
theorem State.elapse_over {us : Nat} (h : s.holdUs.toNat ≤ us) : s.elapse us = { s with holdUs := 0 } := by
  simp [State.elapse, Nat.sub_eq_zero_of_le h]

theorem step_unscripted_delay (hs : s.script = []) (hd : s.phase.isDelay = true) :
    step s = sequencerTurn { s with holdUs := 0 } := by
  simp [step, hs, unscriptedTurn, hd, State.elapse_over]

/-! ### The sequencer's turn in a phase (R110) -/

theorem sequencerTurn_of_instr {i : Instr} (hi : s.phase.instr = some i) : sequencerTurn s = exec i s := by
  simp only [sequencerTurn, hi]

theorem sequencerTurn_open (hp : s.phase = .openBus) :
    sequencerTurn s = transact true State.beginAttempt completeOpen s := by
  simp [sequencerTurn, hp, Phase.instr, exec, execBusOpen]

theorem sequencerTurn_wake (hp : s.phase = .wake1 ∨ s.phase = .wake2) :
    sequencerTurn s = transact true (State.issue (.write [])) completeWake s := by
  obtain hp | hp := hp <;> simp [sequencerTurn, hp, Phase.instr, exec, execBusWake]

theorem sequencerTurn_sendCmd (hp : s.phase = .sendCmd) :
    sequencerTurn s = transact true (State.issue (.write commandBytes)) completeCmd s := by
  simp [sequencerTurn, hp, Phase.instr, exec, execBusCmd]

theorem sequencerTurn_read (hp : s.phase = .read) :
    sequencerTurn s = transact true (State.issue (.read responseLength)) completeRead s := by
  simp [sequencerTurn, hp, Phase.instr, exec, execBusRead]

theorem sequencerTurn_close (hp : s.phase = .close) :
    sequencerTurn s = transact true (State.issue .close) completeClose s := by
  simp [sequencerTurn, hp, Phase.instr, exec, execBusClose]

/-- A phase that issues a request executes the instruction the request encodes, and is no delay phase. -/
theorem Phase.instr_of_request {ph : Phase} {p : Params} {q : Request} (hq : ph.request p = some q) :
    ∃ i, ph.instr = some i ∧ i.WellFormed ∧ encode p i = .txn q ∧ ph.isDelay = false := by
  cases ph <;> cases hq <;> exact ⟨_, rfl, rfl, rfl, rfl⟩

theorem sequencerTurn_idle (hp : s.phase = .idle) : sequencerTurn s = .next s := by
  simp [sequencerTurn, internalStep, hp, Phase.instr]

theorem sequencerTurn_validate (hp : s.phase = .validate) (hm : s.mode ≠ .check) :
    sequencerTurn s = .next (s.runChecks.advance .attemptEnd) := by
  have hturn : sequencerTurn s = .next s.validate := by simp [sequencerTurn, internalStep, hp, Phase.instr]
  rw [hturn, State.validate]
  split
  · contradiction
  · rfl
  · rfl

/-- An attempt without an error completes the command (R181). -/
theorem sequencerTurn_attemptEnd_success (hp : s.phase = .attemptEnd) (hm : s.mode ≠ .check)
    (he : s.curErr = .noError) : sequencerTurn s = .next (s.finish true .noError) := by
  have hturn : sequencerTurn s = attemptEnd s := by simp [sequencerTurn, internalStep, hp, Phase.instr]
  rw [hturn, attemptEnd, he]
  cases hm' : s.mode with
  | single | retry => rfl
  | check => exact absurd hm' hm

/-- Settles O5: the phase's request decodes to the instruction it encodes, and its phase holds nothing up. -/
theorem stepRunsSequencerInstruction : Obligations.StepRunsSequencerInstruction := by
  refine ⟨fun s q hq => ?_, fun s rest => step_sequencer,
    fun s hs => ⟨step_unscripted hs, step_unscripted_delay hs⟩, fun s => sequencerTurn_idle⟩
  obtain ⟨i, hi, hwf, henc, hdelay⟩ := Phase.instr_of_request hq
  refine ⟨i, henc ▸ decodeEncodeRoundTrip s.params i hwf, fun rest hs => ?_, fun hs => ?_⟩
  · exact (step_sequencer hs).trans (sequencerTurn_of_instr hi)
  · exact (step_unscripted hs hdelay).trans (sequencerTurn_of_instr hi)

/-! ### The outcomes of the checks (R166) -/

theorem State.runChecks_of_invalid (hcrc : crcValid s.resp = false) :
    s.runChecks = s.writeCrc.setCurErr .validationError := by
  simp [State.runChecks, checkOutcome, hcrc]

theorem State.runChecks_of_flag (hcrc : crcValid s.resp = true) (hflag : errorFlag s.params.errOffset s.resp = true) :
    s.runChecks = s.writeCrc.setCurErr .sensorReportedError := by
  simp [State.runChecks, checkOutcome, hcrc, hflag]

theorem State.runChecks_of_pass (hcrc : crcValid s.resp = true) (hflag : errorFlag s.params.errOffset s.resp = false) :
    s.runChecks = s.writeCrc.decodeResult.setCurErr .noError := by
  simp [State.runChecks, checkOutcome, hcrc, hflag]

/-! ### Pieces of a run (R202, R282) -/

/-- A run goes on from where its first part ends. -/
theorem runSteps_append {m n : Nat} (h₁ : runSteps m s = .next t) (h₂ : runSteps n t = .next u) :
    runSteps (m + n) s = .next u := by
  induction m generalizing s with
  | zero =>
    cases h₁
    rwa [Nat.zero_add]
  | succ m ih =>
    rw [Nat.succ_add]
    cases hstep : step s with
    | next s' =>
      rw [runSteps_of_step hstep] at h₁ ⊢
      exact ih h₁
    | fault f => simp [runSteps, hstep] at h₁
    | refused r => simp [runSteps, hstep] at h₁

theorem runSteps_one (s : State) : runSteps 1 s = step s := by
  cases h : step s <;> simp [runSteps, h]

/-- A transaction that issues `q`, answered by an answer that fits, runs to its completion; `u` is what the issue leaves
beside the request. -/
theorem runSteps_transaction {a : Answer} {q : Request} {issueStep : State → State}
    {completion : Answer → State → Result} (hs : s.script = transaction a ++ rest) (ho : s.outstanding = none)
    (hturn : ∀ v : State, v.phase = s.phase → sequencerTurn v = transact true issueStep completion v)
    (hissue : issueStep { s with script := .answer a :: .sequencer :: rest } =
      State.issue q { u with script := .answer a :: .sequencer :: rest })
    (hphase : u.phase = s.phase) (hfit : answerFits q a = true)
    (hdone : completion a (State.consume { u with script := rest }) = .next t) : runSteps 3 s = .next t := by
  have hissued : step s = .next (State.issue q { u with script := .answer a :: .sequencer :: rest }) :=
    calc step s = sequencerTurn { s with script := .answer a :: .sequencer :: rest } := step_sequencer hs
      _ = transact true issueStep completion _ := hturn _ rfl
      _ = .next (issueStep _) := transact_issue rfl ho
      _ = _ := congrArg Host.Outcome.next hissue
  have hanswered : step (State.issue q { u with script := .answer a :: .sequencer :: rest }) =
      .next { u with script := .sequencer :: rest, outstanding := some ⟨q, some a⟩ } :=
    (step_answer rfl).trans (State.deliver_of_fits rfl hfit)
  have hcompleted : step { u with script := .sequencer :: rest, outstanding := some ⟨q, some a⟩ } = .next t :=
    calc step { u with script := .sequencer :: rest, outstanding := some ⟨q, some a⟩ }
      _ = sequencerTurn { u with script := rest, outstanding := some ⟨q, some a⟩ } := step_sequencer rfl
      _ = transact true issueStep completion { u with script := rest, outstanding := some ⟨q, some a⟩ } :=
        hturn _ hphase
      _ = completion a (State.consume { u with script := rest }) := transact_complete rfl rfl
      _ = .next t := hdone
  rw [runSteps_of_step hissued, runSteps_of_step hanswered, runSteps_one, hcompleted]

/-- A delay phase is left once the time that passes has reached the hold. -/
theorem runSteps_delay {us : Nat} {p : Phase} (hs : s.script = delayOf us ++ rest)
    (hp : (s.phase, p) ∈ [(Phase.waitWake, Phase.wake2), (.waitWriteMode, .sendCmd), (.waitRead, .read),
      (.retryWait, .openBus)]) (hus : s.holdUs.toNat ≤ us) :
    runSteps 2 s = .next { s with script := rest, holdUs := 0, phase := p } := by
  have helapsed : step s = .next { s with script := .sequencer :: rest, holdUs := 0 } :=
    (step_elapse hs).trans (congrArg Host.Outcome.next (State.elapse_over hus))
  have hleft : step { s with script := .sequencer :: rest, holdUs := 0 } =
      .next (State.advance p { s with script := rest, holdUs := 0 }) :=
    calc step { s with script := .sequencer :: rest, holdUs := 0 }
      _ = sequencerTurn { s with script := rest, holdUs := 0 } := step_sequencer rfl
      _ = .next (State.leaveDelay (State.advance p) { s with script := rest, holdUs := 0 }) := sequencerTurn_delay hp
      _ = _ := congrArg Host.Outcome.next (State.leaveDelay_over _ rfl)
  rw [runSteps_of_step helapsed, runSteps_one, hleft]
  rfl

end

/-! ### A clean attempt (R110, R181) -/

/-- A running attempt in which nothing has failed, on entry into a phase: no transaction begun and nothing to wait. -/
def State.inAttempt (s : State) (p : Phase) (turns : List Turn) : State :=
  { s with
    phase := p, handleOpen := p.ownsHandle, curErr := .noError, holdUs := 0, outstanding := none, script := turns }

section
variable {s : State} {rest : List Turn}

theorem runSteps_open (hp : s.phase = .openBus) (hrest : s.AtRest) (hs : s.script = transaction .ok ++ rest) :
    runSteps 3 s = .next (State.inAttempt { s with attempts := s.attempts + 1 } .wake1 rest) := by
  refine runSteps_transaction (u := { s with attempts := s.attempts + 1, curErr := .noError }) hs hrest.port
    (fun v hv => sequencerTurn_open (hv.trans hp)) rfl rfl rfl ?_
  simp only [State.inAttempt, ← hrest.hold]
  rfl

theorem runSteps_firstWake :
    runSteps 3 (s.inAttempt .wake1 (transaction .ok ++ rest)) =
      .next ((s.inAttempt .waitWake rest).hold s.wakeDelay .waitWake) :=
  runSteps_transaction (u := s.inAttempt .wake1 rest) rfl rfl (fun _ hp => sequencerTurn_wake (.inl hp)) rfl rfl rfl rfl

theorem runSteps_secondWake :
    runSteps 3 (s.inAttempt .wake2 (transaction .ok ++ rest)) =
      .next ((s.inAttempt .waitWriteMode rest).hold s.writeModeDelay .waitWriteMode) :=
  runSteps_transaction (u := s.inAttempt .wake2 rest) rfl rfl (fun _ hp => sequencerTurn_wake (.inr hp)) rfl rfl rfl rfl

theorem runSteps_sendCmd :
    runSteps 3 (s.inAttempt .sendCmd (transaction .ok ++ rest)) =
      .next ((s.inAttempt .waitRead rest).hold s.readDelay .waitRead) :=
  runSteps_transaction (u := s.inAttempt .sendCmd rest) rfl rfl (fun _ => sequencerTurn_sendCmd) rfl rfl rfl rfl

/-- A delay phase of an attempt, entered with its hold loaded, leads to the next phase with the handle kept. -/
theorem runSteps_wait {us : Nat} {d : Word} {wait next : Phase}
    (hp : (wait, next) ∈ [(Phase.waitWake, Phase.wake2), (.waitWriteMode, .sendCmd), (.waitRead, .read)])
    (hus : d.toNat ≤ us) :
    runSteps 2 ((s.inAttempt wait (delayOf us ++ rest)).hold d wait) = .next (s.inAttempt next rest) := by
  have hdelay : (wait, next) ∈ [(Phase.waitWake, Phase.wake2), (.waitWriteMode, .sendCmd), (.waitRead, .read),
      (.retryWait, .openBus)] := List.mem_append_left [_] hp
  have hown : wait.ownsHandle = next.ownsHandle := by
    have hall : ∀ c ∈ [(Phase.waitWake, Phase.wake2), (.waitWriteMode, .sendCmd), (.waitRead, .read)],
        c.1.ownsHandle = c.2.ownsHandle := by decide
    exact hall _ hp
  rw [runSteps_delay (s := (s.inAttempt wait (delayOf us ++ rest)).hold d wait) rfl hdelay hus]
  simp only [State.inAttempt, ← hown]
  rfl

theorem runSteps_read (r : Response) :
    runSteps 3 (s.inAttempt .read (transaction
      (.okBytes [r.func, r.count, r.humH, r.humL, r.tempH, r.tempL, r.crcL, r.crcH]) ++ rest)) =
      .next (State.inAttempt { s with resp := r } .close rest) :=
  runSteps_transaction (u := s.inAttempt .read rest) rfl rfl (fun _ => sequencerTurn_read) rfl rfl rfl rfl

theorem runSteps_close :
    runSteps 3 (s.inAttempt .close (transaction .ok ++ rest)) = .next (s.inAttempt .validate rest) :=
  runSteps_transaction (u := s.inAttempt .close rest) rfl rfl (fun _ => sequencerTurn_close) rfl rfl rfl rfl

/-- VALIDATE of a response that passes both checks, and the attempt's end. -/
theorem runSteps_validate (hm : s.mode ≠ .check) (hcrc : crcValid s.resp = true)
    (hflag : errorFlag s.params.errOffset s.resp = false) :
    runSteps 2 (s.inAttempt .validate (.sequencer :: .sequencer :: rest)) =
      .next ((s.writeCrc.decodeResult.inAttempt .attemptEnd rest).finish true .noError) := by
  have hpass := State.runChecks_of_pass (s := s.inAttempt .validate (.sequencer :: rest)) hcrc hflag
  have hvalidated : step (s.inAttempt .validate (.sequencer :: .sequencer :: rest)) =
      .next (s.writeCrc.decodeResult.inAttempt .attemptEnd (.sequencer :: rest)) :=
    calc step (s.inAttempt .validate (.sequencer :: .sequencer :: rest))
      _ = sequencerTurn (s.inAttempt .validate (.sequencer :: rest)) := step_sequencer rfl
      _ = .next ((s.inAttempt .validate (.sequencer :: rest)).runChecks.advance .attemptEnd) :=
        sequencerTurn_validate rfl hm
      _ = _ := by rw [hpass]; rfl
  rw [runSteps_of_step hvalidated, runSteps_one, step_sequencer rfl]
  exact sequencerTurn_attemptEnd_success rfl hm rfl

/-- A clean attempt, from OPEN to the command's completion. -/
theorem runSteps_cleanAttempt {r : Response} {w1 w2 w3 : Nat} (hp : s.phase = .openBus) (hm : s.mode ≠ .check)
    (hrest : s.AtRest) (h1 : s.wakeDelay.toNat ≤ w1) (h2 : s.writeModeDelay.toNat ≤ w2)
    (h3 : s.readDelay.toNat ≤ w3) (hcrc : crcValid r = true) (hflag : errorFlag s.params.errOffset r = false)
    (hs : s.script =
      cleanAttempt w1 w2 w3 [r.func, r.count, r.humH, r.humL, r.tempH, r.tempL, r.crcL, r.crcH]) :
    runSteps 26 s = .next ((State.inAttempt
      (State.writeCrc { s with attempts := s.attempts + 1, resp := r }).decodeResult .attemptEnd []).finish
        true .noError) := by
  simp only [cleanAttempt, List.append_assoc] at hs
  exact runSteps_append (runSteps_open hp hrest hs) <|
    runSteps_append runSteps_firstWake <| runSteps_append (runSteps_wait (by decide) h1) <|
    runSteps_append runSteps_secondWake <| runSteps_append (runSteps_wait (by decide) h2) <|
    runSteps_append runSteps_sendCmd <| runSteps_append (runSteps_wait (by decide) h3) <|
    runSteps_append (runSteps_read r) <| runSteps_append runSteps_close <| runSteps_validate hm hcrc hflag

/-- Commands 1 and 2, written to CTRL while idle, are accepted (R220, R222, R223). -/
theorem step_startsAttempt {cmd : Word} (hs : s.script = .host (wr 0x00 cmd) :: rest) (hb : s.busy = false)
    (hcmd : cmd = 1 ∨ cmd = 2) :
    ∃ m, m ≠ .check ∧ m.firstPhase = .openBus ∧ step s = .next (State.accept m { s with script := rest }) := by
  rw [step_host hs]
  obtain rfl | rfl := hcmd
  · exact ⟨.single, by decide, rfl, congrArg Host.Outcome.next (State.whenIdle_of_idle _ hb)⟩
  · exact ⟨.retry, by decide, rfl, congrArg Host.Outcome.next (State.whenIdle_of_idle _ hb)⟩

/-- Acceptance begins no transaction and no hold. -/
theorem State.AtRest.accepted {m : Mode} (h : s.AtRest) : State.AtRest (State.accept m { s with script := rest }) :=
  { h with last_attempt := by simp, attempts_max := by simp }

/-- DONE and OK alone are set in STATUS after a success with no CLOSE_FAIL, CMD_ERR or LAST_ERR (R21). -/
theorem State.statusWord_finish_success (hclose : s.closeFail = false) (hcmd : s.cmdErr = false)
    (hlast : s.lastErr = .noError) : (s.finish true .noError).statusWord = 0x00000006 :=
  BitVec.eq_of_toNat_eq (by simp [State.statusWord_toNat, hclose, hcmd, hlast, ErrCode.code, Phase.code])

/-- Settles O56: the command is accepted, and one clean attempt completes it. -/
theorem cleanMeasureSucceeds : Obligations.CleanMeasureSucceeds := by
  intro s r cmd w1 w2 w3 hinv hb hcmd h1 h2 h3 hcrc hflag hs
  have hrest := hinv.atRest (by simp [hinv.idle_of_not_busy hb])
  obtain ⟨m, hm, hfirst, hstep⟩ := step_startsAttempt hs hb hcmd
  have hrun := runSteps_cleanAttempt hfirst hm hrest.accepted h1 h2 h3 hcrc hflag rfl
  have htrailer : crcCompute r = r.trailer := ((crcValid_iff r).1 hcrc).symm
  exact ⟨_, (runSteps_of_step hstep).trans hrun, rfl, State.statusWord_finish_success rfl rfl rfl, rfl, rfl, rfl, rfl,
    htrailer, rfl, rfl, rfl, rfl⟩

end

/-! ### The bus instructions, step by step (R111 to R119) -/

section
variable {s : State}

/-- `raise` in a phase whose errors lead to `p` (R123). -/
theorem State.raiseError_to {e : ErrCode} {p : Phase} (hp : s.phase.errorTarget = p) :
    s.raiseError e = { s with curErr := e, phase := p } := by
  rw [State.raiseError, hp]

theorem ErrCode.afterClose_eq (e : ErrCode) :
    e.afterClose = if e = .noError then Phase.validate else .attemptEnd := by
  cases e <;> rfl

theorem Response.ofBytes_eq_none {bs : List Byte} (h : bs.length ≠ 8) : Response.ofBytes bs = none := by
  cases hr : Response.ofBytes bs with
  | none => rfl
  | some r => exact absurd (Response.length_of_ofBytes hr) h

/-- Settles O14: the transaction's issue and its two completions. -/
theorem busOpenSteps : Obligations.BusOpenSteps := by
  intro s hp
  have hhere : (s.phase == .openBus) = true := by simp [hp]
  refine ⟨fun ho => transact_issue hhere ho, fun q ho => transact_complete hhere ho, fun q ho => ?_⟩
  refine (transact_complete hhere ho).trans (congrArg Host.Outcome.next ?_)
  exact State.raiseError_to (by simp [hp, Phase.errorTarget])

/-- Settles O15: the phase alone tells the two wakes' completions apart. -/
theorem busWakeSteps : Obligations.BusWakeSteps := by
  intro s
  have hhere (hp : s.phase = .wake1 ∨ s.phase = .wake2) : (s.phase == .wake1 || s.phase == .wake2) = true := by
    simpa using hp
  refine ⟨fun hp ho => transact_issue (hhere hp) ho, fun q hp ho => ?_, fun q hp ho => ?_, fun q hp ho => ?_⟩
  · exact (transact_complete (hhere (.inl hp)) ho).trans (if_pos hp)
  · exact (transact_complete (hhere (.inr hp)) ho).trans (if_neg (by simp [hp]))
  · refine (transact_complete (hhere hp) ho).trans ?_
    have htarget : s.consume.phase.errorTarget = .close := by obtain hp | hp := hp <;> simp [hp, Phase.errorTarget]
    simp only [completeWake, completeWrite, State.raiseError_to htarget, ite_self]
    rfl

/-- Settles O16: the transaction's issue and its two completions. -/
theorem busCmdSteps : Obligations.BusCmdSteps := by
  intro s hp
  have hhere : (s.phase == .sendCmd) = true := by simp [hp]
  refine ⟨fun ho => transact_issue hhere ho, fun q ho => transact_complete hhere ho, fun q ho => ?_⟩
  refine (transact_complete hhere ho).trans (congrArg Host.Outcome.next ?_)
  exact State.raiseError_to (by simp [hp, Phase.errorTarget])

/-- Settles O17: any answer but 8 bytes raises the one error. -/
theorem busReadSteps : Obligations.BusReadSteps := by
  intro s hp
  have hhere : (s.phase == .read) = true := by simp [hp]
  have htarget : s.consume.phase.errorTarget = .close := by simp [hp, Phase.errorTarget]
  refine ⟨fun ho => transact_issue hhere ho, fun q ho => ?_, fun q bs ho hlen => ?_, fun q _ _ _ _ _ _ _ _ ho => ?_⟩
  · exact (transact_complete hhere ho).trans (congrArg Host.Outcome.next (State.raiseError_to htarget))
  · refine (transact_complete hhere ho).trans ?_
    rw [completeRead, Response.ofBytes_eq_none hlen]
    exact congrArg Host.Outcome.next (State.raiseError_to htarget)
  · exact transact_complete hhere ho

/-- Settles O18: both completions release the handle, and `cur_err` alone chooses the next phase. -/
theorem busCloseSteps : Obligations.BusCloseSteps := by
  intro s hp
  have hhere : (s.phase == .close) = true := by simp [hp]
  refine ⟨fun ho => transact_issue hhere ho, fun q ho => ?_, fun q ho => ?_⟩
  · rw [← ErrCode.afterClose_eq]
    exact transact_complete hhere ho
  · rw [← ErrCode.afterClose_eq]
    exact transact_complete hhere ho

/-! ### VALIDATE in an attempt (R120, R166) -/

/-- What the CRC unit writes, whatever its outcome (R145); the accumulator's free value is left open. -/
theorem State.writeCrc_eq (s : State) :
    ∃ acc n, s.writeCrc =
      { s with crcAcc := acc, draws := n, crcCalc := crcCompute s.resp, crcRecv := s.resp.trailer } := by
  simp only [State.writeCrc, State.accumulate]
  exact ⟨_, _, rfl⟩

/-- Settles O24: VALIDATE's step is the checks and the move to ATTEMPT_END, and the checks have three outcomes. -/
theorem validateOutcomes : Obligations.ValidateOutcomes := by
  intro s hp hm
  obtain ⟨acc, n, hcrcRegs⟩ := s.writeCrc_eq
  simp only [sequencerTurn_validate hp hm, ne_eq, ← crcValid_iff, Bool.not_eq_true]
  refine ⟨fun hcrc => ⟨acc, n, ?_⟩, fun hcrc hflag => ⟨acc, n, ?_⟩, fun hcrc hflag => ⟨acc, n, ?_⟩⟩
  · rw [State.runChecks_of_invalid hcrc, hcrcRegs, State.setCurErr, State.advance]
  · rw [State.runChecks_of_flag hcrc hflag, hcrcRegs, State.setCurErr, State.advance]
  · rw [State.runChecks_of_pass hcrc hflag, hcrcRegs, State.setCurErr, State.advance]
    simp only [State.decodeResult]

/-! ### A host access under a running command (R124, R226, R227, R250) -/

/-- While a command runs, an executed host access is misuse or a read, or does nothing. -/
theorem HostEffect.frame_of_busy {t : State} (he : HostEffect s t) (hb : s.busy = true) :
    t = { s with cmdErr := t.cmdErr, reads := t.reads, draws := t.draws } ∧
      (s.cmdErr = true → t.cmdErr = true) := by
  cases he with
  | nothing | read => exact ⟨rfl, id⟩
  | misuse => exact ⟨rfl, fun _ => rfl⟩
  | acceptAttempt _ hidle | acceptCheck hidle | setBound _ hidle | setWakeDelay _ hidle | setWriteModeDelay _ hidle
  | setReadDelay _ hidle | setRetryDelay _ hidle | setResp _ hidle => simp [hb] at hidle

/-- Settles O53: the host's turn is an executed access on the state without it. -/
theorem hostCannotDisturbCommand : Obligations.HostCannotDisturbCommand := by
  intro s t a rest hb hs hstep
  exact (hostTurn_effect ((step_host hs).symm.trans hstep)).frame_of_busy hb

end

end Sys2Proof.Machine
end

section
/-!
The settled statements of the family 41_crc_validator, and what they need: a flipped bit as one modified byte of the
list the CRC covers, or of the trailer's pair.
-/

namespace Sys2Proof.Machine

/-! ### A single flipped bit (R146) -/

/-- The byte with bit j flipped. -/
def flipByte (j : Fin 8) (b : Byte) : Byte := b ^^^ (1#8 <<< j.val)

theorem flipByte_ne (j : Fin 8) (b : Byte) : flipByte j b ≠ b := by
  intro h
  have hmask : 1#8 <<< j.val = 0#8 := (BitVec.xor_right_inj b).1 (h.trans BitVec.xor_zero.symm)
  exact (by decide : ∀ k : Fin 8, 1#8 <<< k.val ≠ 0#8) j hmask

/-- One byte of the list changed by `f` changes the accumulator after all of them. -/
theorem crcBytes_modify_ne (c : Half) {bytes : List Byte} {f : Byte → Byte} (hf : ∀ b, f b ≠ b) {i : Nat}
    (hi : i < bytes.length) : crcBytes c (bytes.modify i f) ≠ crcBytes c bytes := by
  obtain ⟨before, b, after, hbytes, -, hmodify⟩ := List.exists_of_modify f hi
  rw [hmodify, hbytes]
  exact crcBytes_ne_of_byte_ne c before after (hf b)

/-- Of the covered bytes the flip modifies number i, and none when i is a trailer byte. -/
theorem covered_flipBit (i j : Fin 8) (r : Response) :
    (r.flipBit i j).covered = r.covered.modify i.val (flipByte j) := by
  fin_cases i <;> rfl

theorem crcCompute_flipBit_ne {i : Fin 8} (hi : i.val < 6) (j : Fin 8) (r : Response) :
    crcCompute (r.flipBit i j) ≠ crcCompute r := by
  rw [crcCompute, covered_flipBit]
  exact crcBytes_modify_ne _ (flipByte_ne j) hi

theorem crcCompute_flipBit_trailer {i : Fin 8} (hi : 6 ≤ i.val) (j : Fin 8) (r : Response) :
    crcCompute (r.flipBit i j) = crcCompute r := by
  rw [crcCompute, covered_flipBit, List.modify_eq_self hi, crcCompute]

theorem trailer_flipBit_covered {i : Fin 8} (hi : i.val < 6) (j : Fin 8) (r : Response) :
    (r.flipBit i j).trailer = r.trailer := by
  match i with
  | 0 | 1 | 2 | 3 | 4 | 5 => rfl

theorem trailer_flipBit_ne {i : Fin 8} (hi : 6 ≤ i.val) (j : Fin 8) (r : Response) :
    (r.flipBit i j).trailer ≠ r.trailer := by
  match i with
  | 6 => exact fun h => flipByte_ne j r.crcL ((BitVec.append_right_inj r.crcH).1 h)
  | 7 => exact fun h => flipByte_ne j r.crcH ((BitVec.append_left_inj r.crcL).1 h)

/-- Settles O33: a flip changes exactly one side of the comparison of trailer and computed CRC. -/
theorem singleBitFlipDetected : Obligations.SingleBitFlipDetected := by
  intro r i j
  refine ⟨fun hi => ⟨crcCompute_flipBit_ne hi j r, trailer_flipBit_covered hi j r⟩,
    fun hi => ⟨crcCompute_flipBit_trailer hi j r, trailer_flipBit_ne hi j r⟩, fun hvalid => ?_⟩
  rw [crcValid_iff] at hvalid
  rw [← Bool.not_eq_true, crcValid_iff]
  intro hflipped
  obtain hi | hi := Nat.lt_or_ge i.val 6
  · rw [trailer_flipBit_covered hi, hvalid] at hflipped
    exact crcCompute_flipBit_ne hi j r hflipped.symm
  · rw [crcCompute_flipBit_trailer hi, ← hvalid] at hflipped
    exact trailer_flipBit_ne hi j r hflipped

/-! ### The CRC of fixed bytes (R143) -/

/-- Settles O31: the trailer is not covered, so each CRC is that of six fixed bytes. -/
theorem crcExamples : Obligations.CrcExamples := by
  intro crcL crcH
  have hzeros : crcBytes 0xFFFF#16 [0, 0, 0, 0, 0, 0] = 0x1B00#16 := by decide +kernel
  have hones : crcBytes 0xFFFF#16 [0xFF, 0xFF, 0xFF, 0xFF, 0xFF, 0xFF] = 0x9401#16 := by decide +kernel
  exact ⟨crcCompute_example crcL crcH, hzeros, hones⟩

end Sys2Proof.Machine
end

section
/-!
The settled statements of the family 42_response_decoder, and what they need: the decoded registers read as integers, and
a CHECK from its acceptance to its completion as one change of the state.
-/

namespace Sys2Proof.Machine

/-! ### The order of the checks (R166) -/

/-- The registers that DECODE writes (R165). -/
def State.results (s : State) : Half × Word × BitVec 64 := (s.humidity, s.temperature, s.diE6)

/-- In every mode VALIDATE leaves `cur_err` and the result registers as the checks leave them (R120, R224). -/
theorem State.validate_outcome (s : State) :
    (s.validate.curErr, s.validate.results) = (s.runChecks.curErr, s.runChecks.results) := by
  unfold State.validate
  split <;> rfl

/-- The step of the phase VALIDATE, in every mode (R120). -/
theorem sequencerTurn_validate_anyMode {s : State} (hp : s.phase = .validate) : sequencerTurn s = .next s.validate := by
  simp [sequencerTurn, internalStep, hp, Phase.instr]

/-- The checks' verdict is what they leave in `cur_err`. -/
theorem State.runChecks_curErr (s : State) : s.runChecks.curErr = checkOutcome s.params.errOffset s.resp := by
  unfold State.runChecks
  split <;> simp [*]

/-- DECODE runs after both checks have passed, and not otherwise. -/
theorem State.runChecks_results (s : State) :
    s.runChecks.results =
      if checkOutcome s.params.errOffset s.resp = .noError then s.decodeResult.results else s.results := by
  unfold State.runChecks
  split
  next hpass => rw [if_pos hpass]; rfl
  next hfail => rw [if_neg hfail]; rfl

/-- Settles O25: VALIDATE leaves what the checks leave, and they have three outcomes. -/
theorem checkOrder : Obligations.CheckOrder := by
  intro s hp
  have hval := s.validate_outcome
  simp only [State.runChecks_curErr, State.runChecks_results, Prod.mk.injEq] at hval
  refine ⟨s.validate, sequencerTurn_validate_anyMode hp, fun hcrc => ?_, fun hcrc hflag => ?_, fun hcrc hflag => ?_⟩
  · simpa [State.results, checkOutcome, crcValid, hcrc] using hval
  · simpa [State.results, checkOutcome, crcValid, hcrc, hflag] using hval
  · simpa [State.results, checkOutcome, crcValid, hcrc, hflag] using hval

/-! ### The decoded registers as integers (R162 to R164, R168) -/

theorem State.decodeResult_temperature_toInt (s : State) :
    s.decodeResult.temperature.toInt = temperatureTenths s.params.tempEncoding s.resp.tempRaw :=
  toInt_temperature _ _

/-- DI_E6 is the index of the temperature and the humidity that DECODE writes beside it. -/
theorem State.decodeResult_diE6_toInt (s : State) :
    s.decodeResult.diE6.toInt = discomfort s.decodeResult.temperature.toInt s.decodeResult.humidity.toNat := by
  rw [s.decodeResult_temperature_toInt]
  exact toInt_discomfort _ _ _

/-- Settles O28: each register holds its value exactly, and a raw temperature is read by its encoding. -/
theorem decodeWritesReading : Obligations.DecodeWritesReading := by
  intro s
  have htemp := s.decodeResult_temperature_toInt
  refine ⟨humRaw_toNat _, fun henc => ?_, fun henc hraw => ?_, fun henc hraw => ?_, s.decodeResult_diE6_toInt, rfl⟩
  · rw [htemp, henc, temperatureTenths_unsigned, tempRaw_toNat]
  · rw [htemp, henc, temperatureTenths_signMagnitude, tempRaw_toNat, if_pos hraw]
  · rw [htemp, henc, temperatureTenths_signMagnitude, tempRaw_toNat, if_neg (Nat.not_lt.2 hraw)]

theorem temperatureTenths_signMagnitude_range (r : Half) :
    -32767 ≤ temperatureTenths .signMagnitude r ∧ temperatureTenths .signMagnitude r ≤ 32767 := by
  have hr := r.isLt
  rw [temperatureTenths_signMagnitude]
  split <;> omega

theorem temperatureTenths_unsigned_range (r : Half) :
    0 ≤ temperatureTenths .unsigned r ∧ temperatureTenths .unsigned r ≤ 65535 := by
  have hr := r.isLt
  rw [temperatureTenths_unsigned]
  omega

/-- Settles O29: the ranges of the temperature's encodings, and of the index over both. -/
theorem decodedRanges : Obligations.DecodedRanges := by
  intro s
  have hhum := s.decodeResult.humidity.isLt
  rw [s.decodeResult_diE6_toInt, s.decodeResult_temperature_toInt]
  exact ⟨fun henc => henc ▸ temperatureTenths_signMagnitude_range _,
    fun henc => henc ▸ temperatureTenths_unsigned_range _,
    discomfort_range _ _ (temperatureTenths_range _ _) ⟨by omega, by omega⟩⟩

/-! ### CHECK, from its acceptance to its completion (R167, R224) -/

section
variable {s t : State} {rest : List Turn}

/-- What an accepted CHECK leaves once its VALIDATE has completed it (R224). -/
def State.checked (s : State) : State := ((s.accept .check).setCurErr .noError).runChecks.completeCheck

theorem sequencerTurn_validate_check (hp : s.phase = .validate) (hm : s.mode = .check) :
    sequencerTurn s = .next s.runChecks.completeCheck := by
  rw [sequencerTurn_validate_anyMode hp, State.validate, hm]

/-- CHECK, written to CTRL while idle, is accepted (R220, R224). -/
theorem step_startsCheck {v : Word} (hs : s.script = .host (wr 0x00 v) :: rest) (hb : s.busy = false)
    (hv : v.toNat % 8 = 3) :
    step s = .next (State.setCurErr .noError (State.accept .check { s with script := rest })) := by
  have hcmd : ctrlCmd v = 3 := BitVec.eq_of_toNat_eq ((ctrlCmd_toNat v).trans hv)
  calc step s = exec (decodeCtrl v) { s with script := rest } := step_host hs
    _ = execCheck { s with script := rest } := by simp [decodeCtrl, hcmd, exec]
    _ = _ := congrArg Host.Outcome.next (State.whenIdle_of_idle _ hb)

/-- A CHECK's two turns. -/
theorem runSteps_check {v : Word} (hs : s.script = .host (wr 0x00 v) :: .sequencer :: rest) (hb : s.busy = false)
    (hv : v.toNat % 8 = 3) : runSteps 2 s = .next (State.checked { s with script := rest }) := by
  rw [runSteps_of_step (step_startsCheck hs hb hv), runSteps_one, step_sequencer rfl]
  exact sequencerTurn_validate_check rfl rfl

/-- A completed CHECK has left BUSY, and keeps the turns to come and all that its verdict rests on (R224). -/
theorem State.checked_keeps (s : State) :
    (s.checked.busy, s.checked.script) = (false, s.script) ∧
      (s.checked.params, s.checked.resp) = (s.params, s.resp) := by
  obtain ⟨_, _, _, _, _, _, _, _, h⟩ := ((s.accept .check).setCurErr .noError).runChecks_frame
  rw [State.checked, h]
  exact ⟨rfl, rfl⟩

theorem State.checked_results (s : State) :
    s.checked.results =
      if checkOutcome s.params.errOffset s.resp = .noError then s.decodeResult.results else s.results :=
  State.runChecks_results _

theorem State.checked_crc (s : State) :
    (s.checked.crcCalc, s.checked.crcRecv) = (crcCompute s.resp, s.resp.trailer) :=
  Prod.ext (State.runChecks_crcCalc _) (State.runChecks_crcRecv _)

/-- STATUS after a CHECK: DONE, and the verdict in OK, ERR and LAST_ERR (R21, R224). -/
theorem State.checked_statusWord_toNat {e : ErrCode} (he : checkOutcome s.params.errOffset s.resp = e) :
    s.checked.statusWord.toNat = 2 + 4 * (e == .noError).toNat + 8 * e.code.toNat + 65536 * e.code.toNat := by
  have hcur : ((s.accept .check).setCurErr .noError).runChecks.curErr = e := (State.runChecks_curErr _).trans he
  obtain ⟨_, _, _, _, _, _, _, _, h⟩ := ((s.accept .check).setCurErr .noError).runChecks_frame
  rw [State.checked, State.completeCheck, hcur, State.statusWord_toNat, h]
  simp [Phase.code]

/-- DECODE is a function of RESP and the parameters alone (R167). -/
theorem State.decodeResult_results_congr (h : (t.params, t.resp) = (s.params, s.resp)) :
    t.decodeResult.results = s.decodeResult.results := by
  obtain ⟨hparams, hresp⟩ := Prod.mk.inj h
  simp [State.results, hparams, hresp]

/-- What the host can read of a completed CHECK: the result registers, CRC and STATUS. -/
def State.reading (s : State) : (Half × Word × BitVec 64) × (Half × Half) × Word :=
  (s.results, (s.crcCalc, s.crcRecv), s.statusWord)

/-- A CHECK of a response that has been checked leaves the same reading: the verdict is the same, and either DECODE
writes the same values or the first CHECK's result registers are kept. -/
theorem State.reading_checked_again (hsame : (t.params, t.resp) = (s.params, s.resp))
    (hresults : t.results = s.checked.results) : t.checked.reading = s.checked.reading := by
  obtain ⟨hparams, hresp⟩ := Prod.mk.inj hsame
  have hverdict : checkOutcome t.params.errOffset t.resp = checkOutcome s.params.errOffset s.resp := by
    rw [hparams, hresp]
  have hkept : t.checked.results = s.checked.results := by
    rw [t.checked_results, hverdict, State.decodeResult_results_congr hsame, hresults, s.checked_results]
    split <;> rfl
  have hcrc : (t.checked.crcCalc, t.checked.crcRecv) = (s.checked.crcCalc, s.checked.crcRecv) := by
    rw [t.checked_crc, s.checked_crc, hresp]
  have hstatus : t.checked.statusWord = s.checked.statusWord := BitVec.eq_of_toNat_eq <|
    (State.checked_statusWord_toNat hverdict).trans (State.checked_statusWord_toNat rfl).symm
  rw [State.reading, State.reading, hkept, hcrc, hstatus]

end

/-- Settles O30: the second command finds the first one completed and its two turns left. -/
theorem checkTwiceSameReading : Obligations.CheckTwiceSameReading := by
  intro s v hb hv hs
  have hfirst := runSteps_check hs hb hv
  set s₁ : State := { s with script := [.host (wr 0x00 v), .sequencer] }
  obtain ⟨hover, hkeeps⟩ := s₁.checked_keeps
  obtain ⟨hidle, hturns⟩ := Prod.mk.inj hover
  have hsecond := runSteps_check hturns hidle hv
  have hreading := State.reading_checked_again (t := { s₁.checked with script := [] }) hkeeps rfl
  simp only [State.reading, State.results, Prod.mk.injEq, and_assoc] at hreading
  exact ⟨_, _, hfirst, runSteps_append hfirst hsecond, hreading⟩

end Sys2Proof.Machine
end

section
/-!
The settled statements of the family 43_retry_supervisor, and what they need: the ends of an attempt, the one event a
step may append to the log, and an attempt whose open fails as a piece of a run.
-/

namespace Sys2Proof.Machine

section
variable {s t : State} {rest : List Turn}

/-! ### The ends of an attempt (R181 to R183) -/

/-- Settles O34: the successful end, in either mode that comes to ATTEMPT_END. -/
theorem attemptEndSuccess : Obligations.AttemptEndSuccess := fun _ hp he hm =>
  sequencerTurn_attemptEnd_success hp hm he

theorem sequencerTurn_attemptEnd (hp : s.phase = .attemptEnd) : sequencerTurn s = attemptEnd s := by
  simp [sequencerTurn, internalStep, hp, Phase.instr]

theorem attemptEnd_failure_single (he : s.curErr ≠ .noError) (hm : s.mode = .single) :
    attemptEnd s = .next (s.reportFailure.finish false s.curErr) := by
  rw [attemptEnd, hm]
  cases hcur : s.curErr with
  | noError => exact absurd hcur he
  | _ => rfl

theorem attemptEnd_failure_retry (he : s.curErr ≠ .noError) (hm : s.mode = .retry) :
    attemptEnd s = .next s.endRetry := by
  rw [attemptEnd, hm]
  cases hcur : s.curErr with
  | noError => exact absurd hcur he
  | _ => rfl

theorem State.endRetry_of_exceeded (h : s.maxRetries.toNat < s.attempts.toNat) :
    s.endRetry = s.reportFailure.finish false .retriesExhausted := by
  simp [State.endRetry, State.boundExceeded, h]

theorem State.endRetry_of_within (h : s.attempts.toNat ≤ s.maxRetries.toNat) :
    s.endRetry = s.reportFailure.hold s.retryDelay .retryWait := by
  simp [State.endRetry, State.boundExceeded, h]

/-- Settles O35: the attempt's error is reported and becomes the command's. -/
theorem attemptEndSingleFailure : Obligations.AttemptEndSingleFailure := fun _ hp he hm =>
  (sequencerTurn_attemptEnd hp).trans (attemptEnd_failure_single he hm)

/-- Settles O36: the bound check has two outcomes. -/
theorem attemptEndRetryFailure : Obligations.AttemptEndRetryFailure := by
  intro s hp he hm
  rw [sequencerTurn_attemptEnd hp, attemptEnd_failure_retry he hm]
  exact ⟨fun hexceeded => congrArg Host.Outcome.next (State.endRetry_of_exceeded hexceeded),
    fun hwithin => congrArg Host.Outcome.next (State.endRetry_of_within hwithin)⟩

/-! ### The log port (R187, R258) -/

/-- The log is left, or gets the one event of a failing close or of a failing attempt's end. -/
def State.LogFollows (s t : State) : Prop :=
  t.log = s.log ∨
  (s.phase = .close ∧ (∃ q, s.outstanding = some ⟨q, some .err⟩) ∧ t.log = s.log ++ [.closeFailed s.attempts]) ∨
  (s.phase = .attemptEnd ∧ s.curErr ≠ .noError ∧ t.log = s.log ++ [.attemptFailed s.attempts s.curErr])

theorem State.runChecks_log (s : State) : s.runChecks.log = s.log := by
  obtain ⟨_, _, _, _, _, _, _, _, h⟩ := s.runChecks_frame
  rw [h]

theorem HostEffect.log_eq (he : HostEffect s t) : t.log = s.log := by cases he <;> rfl

theorem SequencerEffect.logFollows (he : SequencerEffect s t) : s.LogFollows t := by
  cases he with
  | closeFailed q hp ho => exact .inr (.inl ⟨hp, ⟨q, ho⟩, rfl⟩)
  | failedSingle hp _ he | exhausted hp _ he | retried hp _ he => exact .inr (.inr ⟨hp, he, rfl⟩)
  | validated | checked => exact .inl s.runChecks_log
  | _ => exact .inl rfl

/-- Settles O54: only a sequencer's turn emits, and taking it off the script, or letting its hold run out, changes
nothing that an event reports. -/
theorem logEvents : Obligations.LogEvents := by
  intro s t hstep
  show s.LogFollows t
  cases step_effect hstep with
  | host a rest _ hs he => exact .inl he.log_eq
  | sequencer rest _ hs he => exact he.logFollows
  | answer | lateAnswer | elapse | reset => exact .inl rfl
  | unscripted _ hs he => split at he <;> exact he.logFollows

/-! ### Attempts whose open fails (R111, R183 to R185) -/

/-- An attempt at its end, its open answered `Err` (R111, R123). -/
def State.openFailed (s : State) (turns : List Turn) : State :=
  { s with
    attempts := s.attempts + 1, curErr := .transportError, phase := .attemptEnd, outstanding := none, script := turns }

/-- In mode RETRY a failing open leads to the bound check. -/
theorem runSteps_failingOpen (hp : s.phase = .openBus) (hm : s.mode = .retry) (ho : s.outstanding = none)
    (hs : s.script = failingOpen ++ rest) : runSteps 4 s = .next (s.openFailed rest).endRetry := by
  have hfailed : runSteps 3 s = .next (s.openFailed (.sequencer :: rest)) := by
    refine runSteps_transaction (u := { s with attempts := s.attempts + 1, curErr := .noError }) hs ho
      (fun v hv => sequencerTurn_open (hv.trans hp)) rfl rfl rfl (congrArg Host.Outcome.next ?_)
    exact State.raiseError_to (by simp [hp, Phase.errorTarget])
  have hended : step (s.openFailed (.sequencer :: rest)) = .next (s.openFailed rest).endRetry :=
    calc step (s.openFailed (.sequencer :: rest))
      _ = sequencerTurn (s.openFailed rest) := step_sequencer rfl
      _ = attemptEnd (s.openFailed rest) := sequencerTurn_attemptEnd rfl
      _ = _ := attemptEnd_failure_retry (by simp [State.openFailed]) hm
  exact runSteps_append hfailed ((runSteps_one _).trans hended)

/-- The next attempt at OPEN, its predecessor's failing open reported and the hold waited out (R183, R184). -/
def State.retriedOpen (s : State) (turns : List Turn) : State :=
  { (s.openFailed turns).reportFailure with holdUs := 0, phase := .openBus }

/-- Within the bound a failing open is followed by the next attempt. -/
theorem runSteps_retriedOpen {us : Nat} (hp : s.phase = .openBus) (hm : s.mode = .retry) (ho : s.outstanding = none)
    (hbound : (s.attempts + 1).toNat ≤ s.maxRetries.toNat) (hus : s.retryDelay.toNat ≤ us)
    (hs : s.script = failingOpen ++ (delayOf us ++ rest)) : runSteps 6 s = .next (s.retriedOpen rest) := by
  have hfailed := runSteps_failingOpen hp hm ho hs
  rw [State.endRetry_of_within hbound] at hfailed
  exact runSteps_append hfailed (runSteps_delay rfl (by simp) hus)

/-- While the bound is not exceeded ATTEMPTS is below its largest value, 256 (R41). -/
theorem State.attempts_lt_of_bound {n : Nat} (h : s.attempts.toNat + n = s.maxRetries.toNat) :
    s.attempts.toNat < 256 := by
  have := s.maxRetries.isLt
  omega

/-- ATTEMPTS does not wrap up to the largest bound (R41). -/
theorem toNat_add_one_of_lt {a : Half} (h : a.toNat < 256) : (a + 1).toNat = a.toNat + 1 :=
  BitVec.toNat_add_of_lt (by simp; omega)

/-- The events of the n + 1 attempts after number a begin with that of number a + 1. -/
theorem failureEvents_after {a : Half} (h : a.toNat < 256) (n : Nat) :
    failureEvents (a.toNat + 1) (n + 1) =
      .attemptFailed (a + 1) .transportError :: failureEvents ((a + 1).toNat + 1) n := by
  rw [failureEvents, ← toNat_add_one_of_lt h, BitVec.ofNat_toNat, BitVec.setWidth_eq]

/-- The command ended with RetriesExhausted by n more attempts whose opens failed, the last of them number a; h is what
their holds leave of `hold_us`. -/
def State.exhausted (n : Nat) (a : Half) (h : Word) (s : State) : State :=
  State.finish false .retriesExhausted { s with
    attempts := a, curErr := .transportError, lastErr := .transportError
    log := s.log ++ failureEvents (s.attempts.toNat + 1) n
    holdUs := h, outstanding := none, script := [] }

/-- The bound's last attempt ends the command. -/
theorem State.exhausted_one (h : s.attempts.toNat < 256) :
    (s.openFailed []).reportFailure.finish false .retriesExhausted = s.exhausted 1 (s.attempts + 1) s.holdUs := by
  rw [State.exhausted, failureEvents_after h]
  rfl

/-- An earlier attempt is one of those to come. -/
theorem State.exhausted_retriedOpen (h : s.attempts.toNat < 256) (n : Nat) (a : Half) (d : Word) :
    (s.retriedOpen rest).exhausted n a d = s.exhausted (n + 1) a d := by
  have hlog : (s.retriedOpen rest).log ++ failureEvents ((s.attempts + 1).toNat + 1) n =
      s.log ++ failureEvents (s.attempts.toNat + 1) (n + 1) := by
    rw [failureEvents_after h]
    exact List.append_assoc _ _ _
  rw [State.exhausted, State.exhausted, ← hlog]
  rfl

/-- With n retries left, every open failing and every hold waited out, n + 1 attempts exhaust the command. -/
theorem runSteps_untilExhausted {us n : Nat} (hp : s.phase = .openBus) (hm : s.mode = .retry)
    (ho : s.outstanding = none) (hbound : s.attempts.toNat + n = s.maxRetries.toNat) (hus : s.retryDelay.toNat ≤ us)
    (hs : s.script = failingOpens us n ++ failingOpen) :
    ∃ a h, a.toNat = s.maxRetries.toNat + 1 ∧ runSteps (n * 6 + 4) s = .next (s.exhausted (n + 1) a h) := by
  induction n generalizing s with
  | zero =>
    have hlt := State.attempts_lt_of_bound hbound
    have hsucc := toNat_add_one_of_lt hlt
    have hfailed := runSteps_failingOpen (rest := []) hp hm ho hs
    have hexceeded : s.maxRetries.toNat < (s.attempts + 1).toNat := by omega
    rw [State.endRetry_of_exceeded hexceeded] at hfailed
    exact ⟨s.attempts + 1, s.holdUs, by omega, State.exhausted_one hlt ▸ hfailed⟩
  | succ n ih =>
    have hlt := State.attempts_lt_of_bound hbound
    have hsucc := toNat_add_one_of_lt hlt
    have hfirst : s.script = failingOpen ++ (delayOf us ++ (failingOpens us n ++ failingOpen)) := by
      simpa [failingOpens] using hs
    have hround := runSteps_retriedOpen hp hm ho (by omega) hus hfirst
    have hleft : (s.attempts + 1).toNat + n = s.maxRetries.toNat := by omega
    obtain ⟨a, h, ha, hrun⟩ := ih (s := s.retriedOpen (failingOpens us n ++ failingOpen)) rfl hm rfl hleft hus rfl
    refine ⟨a, h, ha, ?_⟩
    have hsteps : (n + 1) * 6 + 4 = 6 + (n * 6 + 4) := by omega
    rw [hsteps, runSteps_append hround hrun, State.exhausted_retriedOpen hlt]

/-- STATUS of a command that has spent its retries on TransportErrors: LAST_ERR 1, ERR 7 and DONE (R21, R183). -/
theorem State.statusWord_finish_exhausted (hclose : s.closeFail = false) (hcmd : s.cmdErr = false)
    (hlast : s.lastErr = .transportError) : (s.finish false .retriesExhausted).statusWord = 0x0001003A :=
  BitVec.eq_of_toNat_eq (by simp [State.statusWord_toNat, hclose, hcmd, hlast, ErrCode.code, Phase.code])

/-- Settles O57: the command is accepted with no attempt counted, and B + 1 failing opens exhaust it. -/
theorem retriesExhaustAfterBound : Obligations.RetriesExhaustAfterBound := by
  intro s us hinv hb hus hs
  have hrest := hinv.atRest (by simp [hinv.idle_of_not_busy hb])
  have hstep : step s = .next
      (State.accept .retry { s with script := failingOpens us s.maxRetries.toNat ++ failingOpen }) :=
    (step_host hs).trans (congrArg Host.Outcome.next (State.whenIdle_of_idle _ hb))
  obtain ⟨a, h, ha, hrun⟩ := runSteps_untilExhausted (us := us) (n := s.maxRetries.toNat)
    (s := State.accept .retry { s with script := failingOpens us s.maxRetries.toNat ++ failingOpen })
    rfl rfl hrest.port (Nat.zero_add _) hus rfl
  exact ⟨_, (runSteps_of_step hstep).trans hrun, rfl, State.statusWord_finish_exhausted rfl rfl rfl, ha, rfl⟩

end

end Sys2Proof.Machine
end

section
/-!
The settled statements of the family 44_bus_interface, and what they need: the shapes of answer a request takes, the
deliveries that are refused, and what each turn does to the transaction port.
-/

namespace Sys2Proof.Machine

/-! ### The shapes of answer (R201) -/

/-- A plain `Ok` answers every request but a read. -/
theorem answerFits_ok_iff (q : Request) : answerFits q .ok = true ↔ ∀ n, q ≠ .read n := by
  cases q <;> simp [answerFits]

/-- Bytes answer a read alone. -/
theorem answerFits_okBytes_iff (q : Request) (bs : List Byte) :
    answerFits q (.okBytes bs) = true ↔ ∃ n, q = .read n := by
  cases q <;> simp [answerFits]

theorem answerFits_err (q : Request) : answerFits q .err = true := by cases q <;> rfl

section
variable {s t : State}

/-! ### Delivery (R202, R211) -/

theorem State.deliver_of_not_fits {q : Request} {a : Answer} (ho : s.outstanding = some ⟨q, none⟩)
    (hf : answerFits q a = false) : s.deliver a = .refused .answerShape := by
  simp [State.deliver, ho, hf]

/-- No request waits when none is outstanding, and when the one outstanding is answered (log entry 7). -/
theorem State.deliver_unsolicited {a : Answer} (h : ∀ q, s.outstanding ≠ some ⟨q, none⟩) :
    s.deliver a = .refused .unsolicitedAnswer := by
  rcases ho : s.outstanding with _ | ⟨q, _ | b⟩
  · simp [State.deliver, ho]
  · exact absurd ho (h q)
  · simp [State.deliver, ho]

/-- Settles O21: the answer's turn is its delivery, and the shapes are those of R201. -/
theorem answerTurn : Obligations.AnswerTurn := by
  intro s q a rest hs
  rw [step_answer hs]
  refine ⟨fun ho hf => State.deliver_of_fits ho hf, fun ho hf => State.deliver_of_not_fits ho hf, ⟨?_, ?_, ?_, ?_⟩,
    fun hnone => State.deliver_unsolicited hnone⟩
  · rintro n rfl rfl
    rfl
  · rintro bs rfl
    exact answerFits_okBytes_iff q bs
  · rintro rfl
    exact answerFits_err q
  · rintro hread rfl
    exact (answerFits_ok_iff q).2 hread

/-- Settles O19: a phase's instruction is a transaction, and a transaction waits for its answer. -/
theorem unansweredRequestHolds : Obligations.UnansweredRequestHolds := by
  intro s q i hi ho
  obtain ⟨_, issueStep, completion, -, -, hexec⟩ := exec_busInstr s (Phase.instr_isBus hi)
  rw [hexec]
  exact transact_wait (by simp [hi]) ho

/-! ### One request at a time (R48, R202, R207) -/

/-- What a step may do to the transaction port: leave it, end what is outstanding, issue the phase's request where
nothing was, or deliver the answer of the request that waits for one. -/
def State.PortFollows (s t : State) : Prop :=
  t.outstanding = s.outstanding ∨
  t.outstanding = none ∨
  (s.outstanding = none ∧ ∃ q, s.phase.request s.params = some q ∧ t.outstanding = some ⟨q, none⟩) ∨
  (∃ q a, s.outstanding = some ⟨q, none⟩ ∧ t.outstanding = some ⟨q, some a⟩)

theorem State.runChecks_outstanding (s : State) : s.runChecks.outstanding = s.outstanding := by
  obtain ⟨_, _, _, _, _, _, _, _, h⟩ := s.runChecks_frame
  rw [h]

theorem HostEffect.outstanding_eq (he : HostEffect s t) : t.outstanding = s.outstanding := by cases he <;> rfl

theorem SequencerEffect.portFollows (he : SequencerEffect s t) : s.PortFollows t := by
  cases he with
  | issueOpen hp ho => exact .inr (.inr (.inl ⟨ho, openRequest s.params, by rw [hp]; rfl, rfl⟩))
  | issue q hp hq ho => exact .inr (.inr (.inl ⟨ho, q, hq, rfl⟩))
  | validated | checked => exact .inl s.runChecks_outstanding
  | hold | delayOver | succeeded | failedSingle | exhausted | retried => exact .inl rfl
  | opened | openFailed | written | stepFailed | readDone | closed | closeFailed => exact .inr (.inl rfl)

theorem StepEffect.portFollows (he : StepEffect s t) : s.PortFollows t := by
  cases he with
  | host a rest _ hs he => exact .inl he.outstanding_eq
  | sequencer rest _ hs he => exact he.portFollows
  | answer a q rest hs ho hf => exact .inr (.inr (.inr ⟨q, a, ho, rfl⟩))
  | lateAnswer | elapse => exact .inl rfl
  | reset => exact .inr (.inl rfl)
  | unscripted _ hs he => split at he <;> exact he.portFollows

/-- Of the phases that issue a request, the one without a handle is OPEN (R45, R207). -/
theorem Phase.ownsHandle_eq_false_iff_of_request {ph : Phase} {p : Params} {q : Request} (hq : ph.request p = some q) :
    ph.ownsHandle = false ↔ q = openRequest p := by
  cases ph <;> cases hq <;> simp [Phase.ownsHandle, openRequest]

/-- Settles O55: a step issues the phase's request alone, and by the invariant the handle is the phase's. -/
theorem requestDiscipline : Obligations.RequestDiscipline := by
  intro s t p hinv hstep
  have hport := (step_effect hstep).portFollows
  refine ⟨fun hnone hsome => ?_, fun hsome => ?_⟩
  · obtain hsame | hended | ⟨-, q, hq, hissued⟩ | ⟨q, a, hwaits, -⟩ := hport
    · cases hsome.symm.trans (hsame.trans hnone)
    · cases hsome.symm.trans hended
    · obtain rfl : p = ⟨q, none⟩ := Option.some.inj (hsome.symm.trans hissued)
      exact ⟨hq, rfl, hinv.handle ▸ Phase.ownsHandle_eq_false_iff_of_request hq⟩
    · cases hwaits.symm.trans hnone
  · obtain hsame | hended | ⟨hnone, -⟩ | ⟨q, a, hwaits, hdelivered⟩ := hport
    · exact .inr (.inl (hsame.trans hsome))
    · exact .inl hended
    · cases hsome.symm.trans hnone
    · obtain rfl : p = ⟨q, none⟩ := Option.some.inj (hsome.symm.trans hwaits)
      exact .inr (.inr ⟨rfl, a, hdelivered⟩)

end

end Sys2Proof.Machine
end

section
/-!
The settled statements of the family 45_host_commands, and what they need: the CTRL word's command by its bits [2:0], and
the two outcomes of a write that a running command turns away.
-/

namespace Sys2Proof.Machine

variable {v v' : Word} {s : State}

/-! ### The command of a CTRL word (R220) -/

theorem ctrlCmd_congr (h : v'.toNat % 8 = v.toNat % 8) : ctrlCmd v' = ctrlCmd v :=
  BitVec.eq_of_toNat_eq (by rw [ctrlCmd_toNat, ctrlCmd_toNat, h])

/-- Bits [31:3] have no effect (R220). -/
theorem dispatchCtrl_congr (h : v'.toNat % 8 = v.toNat % 8) (s : State) : dispatchCtrl v' s = dispatchCtrl v s := by
  simp only [dispatchCtrl, ctrlCmd_congr h]

/-- The word is the one its own ignored bits and its CMD make, so its instruction is that word's. -/
theorem decodeCtrl_of_cmd (c : BitVec 3) (h : v.toNat % 8 = c.toNat) :
    decodeCtrl v = decodeCtrl (ctrlWord (ctrlIgnored v) c) := by
  obtain rfl : ctrlCmd v = c := BitVec.eq_of_toNat_eq ((ctrlCmd_toNat v).trans h)
  rw [ctrlWord_fields]

theorem decodeCtrl_of_four_le (h : 4 ≤ v.toNat % 8) :
    decodeCtrl v = .reservedCmd (v.extractLsb' 0 2) (ctrlIgnored v) := by
  have hne (c : BitVec 3) (hc : c.toNat < 4) : ctrlCmd v ≠ c := by
    rintro rfl
    rw [ctrlCmd_toNat] at hc
    omega
  rw [decodeCtrl, if_neg (hne 0 (by decide)), if_neg (hne 1 (by decide)), if_neg (hne 2 (by decide)),
    if_neg (hne 3 (by decide))]

/-! ### Turned away while busy, carried out while idle (R221 to R228) -/

/-- A meaning that `whenIdle` guards answers misuse while a command runs (R226, R227). -/
theorem next_whenIdle_of_busy (f : State → State) (hb : s.busy = true) :
    (Host.Outcome.next (s.whenIdle f) : Result) = .next { s with cmdErr := true } :=
  congrArg Host.Outcome.next (State.whenIdle_of_busy f hb)

theorem next_whenIdle_of_idle (f : State → State) (hb : s.busy = false) :
    (Host.Outcome.next (s.whenIdle f) : Result) = .next (f s) :=
  congrArg Host.Outcome.next (State.whenIdle_of_idle f hb)

/-- Whatever the word's command, `whenIdle` guards it. -/
theorem dispatchCtrl_of_busy (v : Word) (hb : s.busy = true) :
    dispatchCtrl v s = .next { s with cmdErr := true } := by
  unfold dispatchCtrl
  repeat' split
  all_goals exact next_whenIdle_of_busy _ hb

/-- Settles O8: the decoder and the dispatch test the same CMD, the word modulo 8. -/
theorem ctrlWriteDispatch : Obligations.CtrlWriteDispatch := by
  intro v s
  exact ⟨(exec_decodeCtrl v s).symm, dispatchCtrl_of_busy v,
    fun h => ⟨_, (decodeCtrl_of_cmd 0 h).trans (decodeCtrl_ctrlWord _ 0)⟩,
    fun h => ⟨_, (decodeCtrl_of_cmd 1 h).trans (decodeCtrl_ctrlWord _ 1)⟩,
    fun h => ⟨_, (decodeCtrl_of_cmd 2 h).trans (decodeCtrl_ctrlWord _ 2)⟩,
    fun h => ⟨_, (decodeCtrl_of_cmd 3 h).trans (decodeCtrl_ctrlWord _ 3)⟩,
    fun h => ⟨_, _, decodeCtrl_of_four_le h⟩, fun _ h => dispatchCtrl_congr h s⟩

/-- Settles O10: `whenIdle` guards each of the five commands, and so the word that dispatches to one. -/
theorem ctrlWriteWhileBusy : Obligations.CtrlWriteWhileBusy := by
  intro g l v s hb
  simp only [List.forall_mem_cons, List.not_mem_nil, false_imp_iff, implies_true, and_true]
  exact ⟨next_whenIdle_of_busy _ hb, next_whenIdle_of_busy _ hb, next_whenIdle_of_busy _ hb,
    next_whenIdle_of_busy _ hb, next_whenIdle_of_busy _ hb, dispatchCtrl_of_busy v hb⟩

/-- Settles O41: `whenIdle` guards the write of each of the seven registers. -/
theorem registerWritesWhileBusy : Obligations.RegisterWritesWhileBusy := by
  intro v s hb
  simp only [List.forall_mem_cons, List.not_mem_nil, false_imp_iff, implies_true, and_true]
  refine ⟨exec_regWrite .maxRetries rfl (by decide) ?_, exec_regWrite .wakeDelay rfl (by decide) ?_,
    exec_regWrite .writeModeDelay rfl (by decide) ?_, exec_regWrite .readDelay rfl (by decide) ?_,
    exec_regWrite .retryDelay rfl (by decide) ?_, exec_regWrite .respLo rfl (by decide) ?_,
    exec_regWrite .respHi rfl (by decide) ?_⟩
  all_goals simp only [State.writeReg, State.whenIdle_of_busy _ hb, State.setCmdErr]

/-- Settles O9: what `whenIdle` guards in a NOP is no change. -/
theorem nopMeaning : Obligations.NopMeaning := fun _ _ => ⟨next_whenIdle_of_idle _, next_whenIdle_of_busy _⟩

/-- Settles O13: what `whenIdle` guards in a reserved command is the misuse itself. -/
theorem reservedCommandWhileIdle : Obligations.ReservedCommandWhileIdle := fun _ _ _ => next_whenIdle_of_idle _

/-- Settles O12: each command's meaning while idle is ACCEPT in its mode. -/
theorem acceptedCommandsExactly : Obligations.AcceptedCommandsExactly := fun _ _ hb =>
  ⟨next_whenIdle_of_idle _ hb, next_whenIdle_of_idle _ hb, next_whenIdle_of_idle _ hb⟩

/-- Settles O11: the fields are read off the accepted commands' whole next states. -/
theorem acceptWritesCommandFields : Obligations.AcceptWritesCommandFields := by
  intro g s hb
  obtain ⟨hmeasure, hretry, hcheck⟩ := acceptedCommandsExactly g s hb
  simp only [List.forall_mem_cons, List.not_mem_nil, false_imp_iff, implies_true, and_true]
  exact ⟨⟨_, hmeasure, by simp only [and_self]⟩, ⟨_, hretry, by simp only [and_self]⟩,
    ⟨_, hcheck, by simp only [and_self]⟩⟩

/-! ### The completion of CHECK (R224) -/

/-- Once `cur_err` holds the verdict, the completion makes it LAST_ERR and ERR, and OK says that it is no error. -/
theorem State.completeCheck_setCurErr (e : ErrCode) (s : State) :
    (s.setCurErr e).completeCheck = { s with
      curErr := e, lastErr := e, err := e, ok := e == .noError, done := true, busy := false, phase := .idle } := rfl

/-- Settles O26: CHECK's step is the checks and the completion, and the checks have three outcomes. -/
theorem checkCompletes : Obligations.CheckCompletes := by
  intro s hp hm
  obtain ⟨acc, n, hcrcRegs⟩ := s.writeCrc_eq
  simp only [sequencerTurn_validate_check hp hm, ne_eq, ← crcValid_iff, Bool.not_eq_true]
  refine ⟨fun hcrc => ⟨acc, n, ?_⟩, fun hcrc hflag => ⟨acc, n, ?_⟩, fun hcrc hflag => ⟨acc, n, ?_⟩⟩
  · rw [State.runChecks_of_invalid hcrc, State.completeCheck_setCurErr, hcrcRegs]; rfl
  · rw [State.runChecks_of_flag hcrc hflag, State.completeCheck_setCurErr, hcrcRegs]; rfl
  · rw [State.runChecks_of_pass hcrc hflag, State.completeCheck_setCurErr, hcrcRegs]; rfl

end Sys2Proof.Machine
end

section
/-!
The settled statements of the family 70_reset_and_hazards, and what they need: the block after power-up as the block
after a reset turn, the steps of the platform's turns, and elapsed time that adds up over turns.
-/

namespace Sys2Proof.Machine

variable {s : State} {rest : List Turn}

/-! ### Reset (R270 to R273) -/

/-- The block is started by a reset, so what holds after every reset turn holds at the start. -/
theorem State.reset_eq_resetBlock : ∃ s : State, State.reset = s.resetBlock :=
  ⟨{ State.reset with draws := 0 }, rfl⟩

@[simp] theorem State.resetBlock_statusWord (s : State) : s.resetBlock.statusWord = 0 :=
  BitVec.eq_of_toNat_eq (by simp [State.statusWord_toNat, ErrCode.code, Phase.code])

theorem step_reset (hs : s.script = .reset :: rest) :
    step s = .next (State.resetBlock { s with script := rest }) := by
  simp only [step, hs, takeTurn]

theorem step_lateAnswer {a : Answer} (hs : s.script = .lateAnswer a :: rest) :
    step s = .next { s with script := rest } := by
  simp only [step, hs, takeTurn]

/-- Settles O44: the values are those after any reset turn. -/
theorem resetValues : Obligations.ResetValues := by
  obtain ⟨s, hs⟩ := State.reset_eq_resetBlock
  simp [Obligations.ResetValues, hs]

/-- Settles O46: the invariant holds after any reset turn. -/
theorem resetMeetsInvariant : Obligations.ResetMeetsInvariant := by
  obtain ⟨s, hs⟩ := State.reset_eq_resetBlock
  rw [Obligations.ResetMeetsInvariant, hs]
  exact s.resetBlock_inv

/-- Settles O45: the reset turn is the whole block's reset, and a late answer's turn is only taken off the script. -/
theorem resetTurn : Obligations.ResetTurn :=
  ⟨fun _ _ hs => ⟨_, step_reset hs, by simp⟩, fun _ _ _ => step_lateAnswer⟩

/-! ### Elapsed time (R47, R282) -/

theorem State.elapse_holdUs_toNat (us : Nat) (s : State) : (s.elapse us).holdUs.toNat = s.holdUs.toNat - us := by
  have hlt := s.holdUs.isLt
  rw [State.elapse_holdUs, BitVec.toNat_ofNat, Nat.mod_eq_of_lt (by omega)]

theorem State.elapse_zero (s : State) : s.elapse 0 = s := by simp [State.elapse]

theorem State.elapse_elapse (a b : Nat) (s : State) : (s.elapse a).elapse b = s.elapse (a + b) := by
  rw [State.elapse, State.elapse_holdUs_toNat, Nat.sub_sub]
  rfl

/-- The hold is over once the elapsed time has reached it, and not before. -/
theorem State.elapse_holdUs_eq_zero_iff {us : Nat} : (s.elapse us).holdUs = 0 ↔ s.holdUs.toNat ≤ us := by
  rw [← BitVec.toNat_inj, State.elapse_holdUs_toNat]
  exact Nat.sub_eq_zero_iff_le

/-- Turns that only let time pass add up. -/
theorem runSteps_elapses {us : List Nat} (hs : s.script = us.map Turn.elapse ++ rest) :
    runSteps us.length s = .next (State.elapse us.sum { s with script := rest }) := by
  induction us generalizing s with
  | nil =>
    obtain rfl : s.script = rest := hs
    exact congrArg Host.Outcome.next s.elapse_zero.symm
  | cons u us ih =>
    calc runSteps (us.length + 1) s
      _ = runSteps us.length (State.elapse u { s with script := us.map Turn.elapse ++ rest }) :=
        runSteps_of_step (step_elapse hs)
      _ = .next (State.elapse us.sum (State.elapse u { s with script := rest })) := ih rfl
      _ = _ := congrArg Host.Outcome.next (State.elapse_elapse u us.sum _)

/-! ### A hold is a lower bound (R282) -/

/-- A delay phase is followed by another phase (R113, R115, R117, R184). -/
theorem Phase.delay_leadsTo {ph : Phase} (h : ph.isDelay = true) :
    ∃ p, p ≠ ph ∧ (ph, p) ∈ [(Phase.waitWake, Phase.wake2), (.waitWriteMode, .sendCmd), (.waitRead, .read),
      (.retryWait, .openBus)] := by
  cases ph <;> cases h
  case waitWake => exact ⟨.wake2, by decide⟩
  case waitWriteMode => exact ⟨.sendCmd, by decide⟩
  case waitRead => exact ⟨.read, by decide⟩
  case retryWait => exact ⟨.openBus, by decide⟩

/-- The sequencer's turn in a delay phase keeps the phase exactly while there is something to wait. -/
theorem State.leaveDelay_phase_eq_iff {p : Phase} (hp : p ≠ s.phase) :
    (s.leaveDelay (State.advance p)).phase = s.phase ↔ s.holdUs ≠ 0 := by
  by_cases h0 : s.holdUs = 0
  · rw [State.leaveDelay_over _ h0]
    exact iff_of_false hp (not_not.2 h0)
  · rw [State.leaveDelay_holding _ h0]
    exact iff_of_true rfl h0

/-- Settles O23: the elapsed time adds up, and the sequencer's turn then finds the hold over or not. -/
theorem holdIsALowerBound : Obligations.HoldIsALowerBound := by
  intro s us hd hs
  obtain ⟨p, hne, hp⟩ := Phase.delay_leadsTo hd
  have hturn : step (State.elapse us.sum { s with script := [.sequencer] }) =
      .next (State.leaveDelay (State.advance p) (State.elapse us.sum { s with script := [] })) :=
    (step_sequencer rfl).trans (sequencerTurn_delay hp)
  refine ⟨_, runSteps_append (runSteps_elapses hs) ((runSteps_one _).trans hturn), ?_⟩
  calc (State.leaveDelay (State.advance p) (State.elapse us.sum { s with script := [] })).phase = s.phase
    _ ↔ (State.elapse us.sum { s with script := [] }).holdUs ≠ 0 := State.leaveDelay_phase_eq_iff hne
    _ ↔ ¬ s.holdUs.toNat ≤ us.sum := State.elapse_holdUs_eq_zero_iff.not
    _ ↔ us.sum < s.holdUs.toNat := Nat.not_le

end Sys2Proof.Machine
end
